-- ==== Sys2Proof/Word.lean ====
section
/-! DEFINITION. The two machine word types: `u8` and `u16` of 00_scope.md R9. -/

namespace Sys2Proof

/-- `u8`: register contents, flags byte, memory byte, operand byte (R9). -/
abbrev Byte := BitVec 8

/-- `u16`: program counter, addresses, operand word (R9). -/
abbrev Word := BitVec 16

end Sys2Proof
end

