-- ==== Sys2Proof/Config.lean ====
section
/-! DEFINITION. The implementation parameters of 00_scope.md R6 and the free values. Eight fields of `Cfg` are plain
data and travel in `State.cfg` (the host fixes the type of `exec`, so there is no argument for them: log 1); the two
that R6 calls OPEN with no default are constants without a body (log 2, log 3). -/

namespace Sys2Proof

/-- `Cfg.INT_PUSHED_B` (R6, R229, D6): what NMI and IRQ entry do to bit 4 of the flags byte they push. -/
inductive PushedB where
  | keep
  | clear
  | set
  deriving DecidableEq, Repr

/-- The configuration record of R6. The field defaults are R6's own. -/
structure Cfg where
  /-- `JMP_IND_PAGE_WRAP` (R93, D1). -/
  jmpIndPageWrap : Bool := false
  /-- `ZP_PTR_WRAP` (R94, R95, D2). -/
  zpPtrWrap : Bool := false
  /-- `BRK_PUSH_OFFSET` (R194, D3). -/
  brkPushOffset : Word := 0
  /-- `BRK_B_BEFORE_PUSH` (R194, D4). -/
  brkBBeforePush : Bool := false
  /-- `BRK_SETS_I` (R194, D5). -/
  brkSetsI : Bool := false
  /-- `INT_PUSHED_B` (R229, D6): OPEN, R6's default is `clear`. -/
  intPushedB : PushedB := .clear
  /-- `IRQ_MASKED_BY_I` (R225, D7): OPEN, R6's default is true. -/
  irqMaskedByI : Bool := true
  /-- `TSX_SETS_ZN` (R120, D8). -/
  tsxSetsZN : Bool := false
  deriving DecidableEq, Repr

/-- Every field at the default R6 lists. -/
def Config.default : Cfg := {}

/-- What an illegal opcode leaves behind (R210): the five 8-bit registers, and memory as the stores that lead to it.
Every memory is reached from every other by some list of stores, so the list constrains nothing (log 2). -/
structure IllegalResult where
  a : Byte
  x : Byte
  y : Byte
  s : Byte
  p : Byte
  stores : List (Word × Byte)
  deriving DecidableEq, Repr, Inhabited

/-- `Cfg.IllegalEffect` (R210, R211, D18, U1): an uninterpreted total function of the opcode, `ea`, `A`, `X`, `Y`, `S`,
`P` and memory. FREE VALUE: it has no body, nothing can be proved of what it answers (log 2, DESIGN CHOICE between
R211's two treatments, safe). -/
opaque Config.illegalEffect (op : Byte) (ea : Word) (a x y s p : Byte) (mem : List (Nat × Byte)) : IllegalResult

/-- `Cfg.KIL_CYCLES` (R212, D19, U2): the base cycle count of the twelve KIL rows. FREE VALUE without a body
(log 3, safe). -/
opaque Config.kilCycles : Nat

end Sys2Proof
end

