-- ==== Sys2Proof/Syntax.lean ====
section
/-! DEFINITION. The syntax of the instruction set: the 13 addressing modes, an operand (a mode with its operand byte or
word), the 256 instructions, and the shape of a table entry (30_encoding.md R60 to R72). -/

namespace Sys2Proof

/-- The closed set of 13 addressing mode tags of R71. -/
inductive Mode where
  | absolute
  | absoluteX
  | absoluteY
  | accumulator
  | immediate
  | implied
  | indirect
  | indirectX
  | indirectY
  | relative
  | zeroPage
  | zeroPageX
  | zeroPageY
  deriving DecidableEq, Repr

/-- An operand as the instruction carries it: its mode and its operand byte `b` or operand word `w` (R61). -/
inductive Operand where
  | absolute (w : Word)
  | absoluteX (w : Word)
  | absoluteY (w : Word)
  | accumulator
  | immediate (b : Byte)
  | implied
  | indirect (w : Word)
  | indirectX (b : Byte)
  | indirectY (b : Byte)
  | relative (b : Byte)
  | zeroPage (b : Byte)
  | zeroPageX (b : Byte)
  | zeroPageY (b : Byte)
  deriving DecidableEq, Repr

/-- The handler column of the dispatch table (R71): one handler per legal mnemonic (the rules of files 41 to 45), and one for the
contract of every illegal opcode (46_illegal_opcodes.md R210). -/
inductive Handler where
  /-- R134. -/
  | adc
  /-- R130. -/
  | and
  /-- R150. -/
  | asl
  /-- R171. -/
  | bcc
  /-- R172. -/
  | bcs
  /-- R173. -/
  | beq
  /-- R133. -/
  | bit
  /-- R175. -/
  | bmi
  /-- R174. -/
  | bne
  /-- R176. -/
  | bpl
  /-- R194. -/
  | brk
  /-- R177. -/
  | bvc
  /-- R178. -/
  | bvs
  /-- R196. -/
  | clc
  /-- R200. -/
  | cld
  /-- R198. -/
  | cli
  /-- R202. -/
  | clv
  /-- R160. -/
  | cmp
  /-- R161. -/
  | cpx
  /-- R162. -/
  | cpy
  /-- R155. -/
  | dec
  /-- R158. -/
  | dex
  /-- R159. -/
  | dey
  /-- R131. -/
  | eor
  /-- R154. -/
  | inc
  /-- R156. -/
  | inx
  /-- R157. -/
  | iny
  /-- R179. -/
  | jmp
  /-- R180. -/
  | jsr
  /-- R110. -/
  | lda
  /-- R111. -/
  | ldx
  /-- R112. -/
  | ldy
  /-- R151. -/
  | lsr
  /-- R195. -/
  | nop
  /-- R132. -/
  | ora
  /-- R190. -/
  | pha
  /-- R191. -/
  | php
  /-- R192. -/
  | pla
  /-- R193. -/
  | plp
  /-- R152. -/
  | rol
  /-- R153. -/
  | ror
  /-- R182. -/
  | rti
  /-- R181. -/
  | rts
  /-- R135. -/
  | sbc
  /-- R197. -/
  | sec
  /-- R201. -/
  | sed
  /-- R199. -/
  | sei
  /-- R113. -/
  | sta
  /-- R114. -/
  | stx
  /-- R115. -/
  | sty
  /-- R116. -/
  | tax
  /-- R117. -/
  | tay
  /-- R120. -/
  | tsx
  /-- R118. -/
  | txa
  /-- R121. -/
  | txs
  /-- R119. -/
  | tya
  /-- R210. -/
  | illegal
  deriving DecidableEq, Repr

/-- One entry of the opcode metadata and dispatch tables (R71). `cycles` is `none` where the table has no number and names the
parameter `KIL_CYCLES` (R212). The mnemonic is for diagnostics only (R72). -/
structure Entry where
  mnemonic : String
  handler : Handler
  mode : Mode
  size : Nat
  cycles : Option Nat
  penalty : Nat
  deriving DecidableEq, Repr

/-- The instructions: one constructor per row of opcode_table.json, with the row's operand
byte `b` or operand word `w`; the rows without an operand (format F1) stand last. A legal row is named by its mnemonic and mode (Acc Imm Zp Zpx Zpy Abs Abx Aby Ind Izx Izy; no
suffix for Implied and Relative); an illegal row carries its opcode value too. -/
inductive Instr where
  | oraIzx (b : Byte)
  | sloIzx03 (b : Byte)
  | nopZp04 (b : Byte)
  | oraZp (b : Byte)
  | aslZp (b : Byte)
  | sloZp07 (b : Byte)
  | oraImm (b : Byte)
  | ancImm0B (b : Byte)
  | nopAbs0C (w : Word)
  | oraAbs (w : Word)
  | aslAbs (w : Word)
  | sloAbs0F (w : Word)
  | bpl (b : Byte)
  | oraIzy (b : Byte)
  | sloIzy13 (b : Byte)
  | nopZpx14 (b : Byte)
  | oraZpx (b : Byte)
  | aslZpx (b : Byte)
  | sloZpx17 (b : Byte)
  | oraAby (w : Word)
  | sloAby1B (w : Word)
  | nopAbx1C (w : Word)
  | oraAbx (w : Word)
  | aslAbx (w : Word)
  | sloAbx1F (w : Word)
  | jsrAbs (w : Word)
  | andIzx (b : Byte)
  | rlaIzx23 (b : Byte)
  | bitZp (b : Byte)
  | andZp (b : Byte)
  | rolZp (b : Byte)
  | rlaZp27 (b : Byte)
  | andImm (b : Byte)
  | ancImm2B (b : Byte)
  | bitAbs (w : Word)
  | andAbs (w : Word)
  | rolAbs (w : Word)
  | rlaAbs2F (w : Word)
  | bmi (b : Byte)
  | andIzy (b : Byte)
  | rlaIzy33 (b : Byte)
  | nopZpx34 (b : Byte)
  | andZpx (b : Byte)
  | rolZpx (b : Byte)
  | rlaZpx37 (b : Byte)
  | andAby (w : Word)
  | rlaAby3B (w : Word)
  | nopAbx3C (w : Word)
  | andAbx (w : Word)
  | rolAbx (w : Word)
  | rlaAbx3F (w : Word)
  | eorIzx (b : Byte)
  | sreIzx43 (b : Byte)
  | nopZp44 (b : Byte)
  | eorZp (b : Byte)
  | lsrZp (b : Byte)
  | sreZp47 (b : Byte)
  | eorImm (b : Byte)
  | alrImm4B (b : Byte)
  | jmpAbs (w : Word)
  | eorAbs (w : Word)
  | lsrAbs (w : Word)
  | sreAbs4F (w : Word)
  | bvc (b : Byte)
  | eorIzy (b : Byte)
  | sreIzy53 (b : Byte)
  | nopZpx54 (b : Byte)
  | eorZpx (b : Byte)
  | lsrZpx (b : Byte)
  | sreZpx57 (b : Byte)
  | eorAby (w : Word)
  | sreAby5B (w : Word)
  | nopAbx5C (w : Word)
  | eorAbx (w : Word)
  | lsrAbx (w : Word)
  | sreAbx5F (w : Word)
  | adcIzx (b : Byte)
  | rraIzx63 (b : Byte)
  | nopZp64 (b : Byte)
  | adcZp (b : Byte)
  | rorZp (b : Byte)
  | rraZp67 (b : Byte)
  | adcImm (b : Byte)
  | arrImm6B (b : Byte)
  | jmpInd (w : Word)
  | adcAbs (w : Word)
  | rorAbs (w : Word)
  | rraAbs6F (w : Word)
  | bvs (b : Byte)
  | adcIzy (b : Byte)
  | rraIzy73 (b : Byte)
  | nopZpx74 (b : Byte)
  | adcZpx (b : Byte)
  | rorZpx (b : Byte)
  | rraZpx77 (b : Byte)
  | adcAby (w : Word)
  | rraAby7B (w : Word)
  | nopAbx7C (w : Word)
  | adcAbx (w : Word)
  | rorAbx (w : Word)
  | rraAbx7F (w : Word)
  | nopImm80 (b : Byte)
  | staIzx (b : Byte)
  | nopImm82 (b : Byte)
  | saxIzx83 (b : Byte)
  | styZp (b : Byte)
  | staZp (b : Byte)
  | stxZp (b : Byte)
  | saxZp87 (b : Byte)
  | nopImm89 (b : Byte)
  | xaaImm8B (b : Byte)
  | styAbs (w : Word)
  | staAbs (w : Word)
  | stxAbs (w : Word)
  | saxAbs8F (w : Word)
  | bcc (b : Byte)
  | staIzy (b : Byte)
  | ahxIzy93 (b : Byte)
  | styZpx (b : Byte)
  | staZpx (b : Byte)
  | stxZpy (b : Byte)
  | saxZpy97 (b : Byte)
  | staAby (w : Word)
  | tasAby9B (w : Word)
  | shyAbx9C (w : Word)
  | staAbx (w : Word)
  | shxAby9E (w : Word)
  | ahxAby9F (w : Word)
  | ldyImm (b : Byte)
  | ldaIzx (b : Byte)
  | ldxImm (b : Byte)
  | laxIzxA3 (b : Byte)
  | ldyZp (b : Byte)
  | ldaZp (b : Byte)
  | ldxZp (b : Byte)
  | laxZpA7 (b : Byte)
  | ldaImm (b : Byte)
  | laxImmAB (b : Byte)
  | ldyAbs (w : Word)
  | ldaAbs (w : Word)
  | ldxAbs (w : Word)
  | laxAbsAF (w : Word)
  | bcs (b : Byte)
  | ldaIzy (b : Byte)
  | laxIzyB3 (b : Byte)
  | ldyZpx (b : Byte)
  | ldaZpx (b : Byte)
  | ldxZpy (b : Byte)
  | laxZpyB7 (b : Byte)
  | ldaAby (w : Word)
  | lasAbyBB (w : Word)
  | ldyAbx (w : Word)
  | ldaAbx (w : Word)
  | ldxAby (w : Word)
  | laxAbyBF (w : Word)
  | cpyImm (b : Byte)
  | cmpIzx (b : Byte)
  | nopImmC2 (b : Byte)
  | dcpIzxC3 (b : Byte)
  | cpyZp (b : Byte)
  | cmpZp (b : Byte)
  | decZp (b : Byte)
  | dcpZpC7 (b : Byte)
  | cmpImm (b : Byte)
  | axsImmCB (b : Byte)
  | cpyAbs (w : Word)
  | cmpAbs (w : Word)
  | decAbs (w : Word)
  | dcpAbsCF (w : Word)
  | bne (b : Byte)
  | cmpIzy (b : Byte)
  | dcpIzyD3 (b : Byte)
  | nopZpxD4 (b : Byte)
  | cmpZpx (b : Byte)
  | decZpx (b : Byte)
  | dcpZpxD7 (b : Byte)
  | cmpAby (w : Word)
  | dcpAbyDB (w : Word)
  | nopAbxDC (w : Word)
  | cmpAbx (w : Word)
  | decAbx (w : Word)
  | dcpAbxDF (w : Word)
  | cpxImm (b : Byte)
  | sbcIzx (b : Byte)
  | nopImmE2 (b : Byte)
  | iscIzxE3 (b : Byte)
  | cpxZp (b : Byte)
  | sbcZp (b : Byte)
  | incZp (b : Byte)
  | iscZpE7 (b : Byte)
  | sbcImm (b : Byte)
  | sbcImmEB (b : Byte)
  | cpxAbs (w : Word)
  | sbcAbs (w : Word)
  | incAbs (w : Word)
  | iscAbsEF (w : Word)
  | beq (b : Byte)
  | sbcIzy (b : Byte)
  | iscIzyF3 (b : Byte)
  | nopZpxF4 (b : Byte)
  | sbcZpx (b : Byte)
  | incZpx (b : Byte)
  | iscZpxF7 (b : Byte)
  | sbcAby (w : Word)
  | iscAbyFB (w : Word)
  | nopAbxFC (w : Word)
  | sbcAbx (w : Word)
  | incAbx (w : Word)
  | iscAbxFF (w : Word)
  | brk
  | kil02
  | php
  | aslAcc
  | kil12
  | clc
  | nopImp1A
  | kil22
  | plp
  | rolAcc
  | kil32
  | sec
  | nopImp3A
  | rti
  | kil42
  | pha
  | lsrAcc
  | kil52
  | cli
  | nopImp5A
  | rts
  | kil62
  | pla
  | rorAcc
  | kil72
  | sei
  | nopImp7A
  | dey
  | txa
  | kil92
  | tya
  | txs
  | tay
  | tax
  | kilB2
  | clv
  | tsx
  | iny
  | dex
  | kilD2
  | cld
  | nopImpDA
  | inx
  | nop
  | kilF2
  | sed
  | nopImpFA
  deriving DecidableEq, Repr

end Sys2Proof
end

