-- ==== Sys2Proof/WellFormed.lean ====
section
/-! DEFINITION. Well-formedness. An instruction carries its operand as an 8- or 16-bit vector, and "operand bytes are never illegal"
(30_encoding.md R68), so every term of `Instr` is well formed. What can be ill formed is a table entry (R60, R63, R64, R71) and a
program image (70_reset_and_hazards.md R259). -/

namespace Sys2Proof

/-- The mode of an operand. -/
def Operand.mode : Operand → Mode
  | .absolute _ => .absolute
  | .absoluteX _ => .absoluteX
  | .absoluteY _ => .absoluteY
  | .accumulator => .accumulator
  | .immediate _ => .immediate
  | .implied => .implied
  | .indirect _ => .indirect
  | .indirectX _ => .indirectX
  | .indirectY _ => .indirectY
  | .relative _ => .relative
  | .zeroPage _ => .zeroPage
  | .zeroPageX _ => .zeroPageX
  | .zeroPageY _ => .zeroPageY

/-- The instruction size of a mode (R63). -/
def Mode.size : Mode → Nat
  | .implied | .accumulator => 1
  | .immediate | .zeroPage | .zeroPageX | .zeroPageY | .indirectX | .indirectY | .relative => 2
  | .absolute | .absoluteX | .absoluteY | .indirect => 3

/-- Every instruction is well formed: every value of `b` and `w` is accepted by every mode (R68). -/
def Instr.wf (_ : Instr) : Bool := true

/-- A table entry is well formed: its size is its mode's (R63), its page-cross penalty is 0 or 1 (R65), and only an illegal row may
leave its cycle count to a parameter (R212). -/
def Entry.wf (e : Entry) : Bool :=
  e.size == e.mode.size && decide (e.penalty ≤ 1) && (e.cycles.isSome || e.handler == .illegal)

/-- `load_program` takes the image: it fails if `len(bytes) >= 65536` (R259). -/
def imageFits (bytes : List Byte) : Bool := decide (bytes.length < 65536)

end Sys2Proof
end

