-- ==== Sys2Proof/Decode.lean ====
section
/-! DEFINITION. The opcode table (30_encoding.md R64 to R67, R71; opcode_table.json), the decoder and the encoder. The decoder is
the 256-way lookup of R60, laid out as the 16 by 16 matrix of R66: row = opcode[7:4], column = opcode[3:0]. -/

namespace Sys2Proof

/-! ### Byte order helpers (R9, R46) -/

/-- `(h:l)`: the word with high byte `h` and low byte `l` (R9). -/
def mkWord (h l : Byte) : Word := BitVec.ofNat 16 (h.toNat * 256 + l.toNat)

/-- `w[7:0]`. -/
def loByte (w : Word) : Byte := BitVec.ofNat 8 (w.toNat % 256)

/-- `w[15:8]`: the page of an address (R9). -/
def hiByte (w : Word) : Byte := BitVec.ofNat 8 (w.toNat / 256)

/-! ### The opcode metadata table (R65, R67) -/

/-- Opcodes 0x00 to 0x0F. -/
def opRow0 : Vector Entry 16 := #v[
  ⟨"BRK", .brk, .implied, 1, some 7, 0⟩,
  ⟨"ORA", .ora, .indirectX, 2, some 6, 0⟩,
  ⟨"KIL", .illegal, .implied, 1, none, 0⟩,
  ⟨"SLO", .illegal, .indirectX, 2, some 8, 0⟩,
  ⟨"NOP", .illegal, .zeroPage, 2, some 3, 0⟩,
  ⟨"ORA", .ora, .zeroPage, 2, some 3, 0⟩,
  ⟨"ASL", .asl, .zeroPage, 2, some 5, 0⟩,
  ⟨"SLO", .illegal, .zeroPage, 2, some 5, 0⟩,
  ⟨"PHP", .php, .implied, 1, some 3, 0⟩,
  ⟨"ORA", .ora, .immediate, 2, some 2, 0⟩,
  ⟨"ASL", .asl, .accumulator, 1, some 2, 0⟩,
  ⟨"ANC", .illegal, .immediate, 2, some 2, 0⟩,
  ⟨"NOP", .illegal, .absolute, 3, some 4, 0⟩,
  ⟨"ORA", .ora, .absolute, 3, some 4, 0⟩,
  ⟨"ASL", .asl, .absolute, 3, some 6, 0⟩,
  ⟨"SLO", .illegal, .absolute, 3, some 6, 0⟩]

/-- Opcodes 0x10 to 0x1F. -/
def opRow1 : Vector Entry 16 := #v[
  ⟨"BPL", .bpl, .relative, 2, some 2, 1⟩,
  ⟨"ORA", .ora, .indirectY, 2, some 5, 1⟩,
  ⟨"KIL", .illegal, .implied, 1, none, 0⟩,
  ⟨"SLO", .illegal, .indirectY, 2, some 8, 0⟩,
  ⟨"NOP", .illegal, .zeroPageX, 2, some 4, 0⟩,
  ⟨"ORA", .ora, .zeroPageX, 2, some 4, 0⟩,
  ⟨"ASL", .asl, .zeroPageX, 2, some 6, 0⟩,
  ⟨"SLO", .illegal, .zeroPageX, 2, some 6, 0⟩,
  ⟨"CLC", .clc, .implied, 1, some 2, 0⟩,
  ⟨"ORA", .ora, .absoluteY, 3, some 4, 1⟩,
  ⟨"NOP", .illegal, .implied, 1, some 2, 0⟩,
  ⟨"SLO", .illegal, .absoluteY, 3, some 7, 0⟩,
  ⟨"NOP", .illegal, .absoluteX, 3, some 4, 1⟩,
  ⟨"ORA", .ora, .absoluteX, 3, some 4, 1⟩,
  ⟨"ASL", .asl, .absoluteX, 3, some 7, 0⟩,
  ⟨"SLO", .illegal, .absoluteX, 3, some 7, 0⟩]

/-- Opcodes 0x20 to 0x2F. -/
def opRow2 : Vector Entry 16 := #v[
  ⟨"JSR", .jsr, .absolute, 3, some 6, 0⟩,
  ⟨"AND", .and, .indirectX, 2, some 6, 0⟩,
  ⟨"KIL", .illegal, .implied, 1, none, 0⟩,
  ⟨"RLA", .illegal, .indirectX, 2, some 8, 0⟩,
  ⟨"BIT", .bit, .zeroPage, 2, some 3, 0⟩,
  ⟨"AND", .and, .zeroPage, 2, some 3, 0⟩,
  ⟨"ROL", .rol, .zeroPage, 2, some 5, 0⟩,
  ⟨"RLA", .illegal, .zeroPage, 2, some 5, 0⟩,
  ⟨"PLP", .plp, .implied, 1, some 4, 0⟩,
  ⟨"AND", .and, .immediate, 2, some 2, 0⟩,
  ⟨"ROL", .rol, .accumulator, 1, some 2, 0⟩,
  ⟨"ANC", .illegal, .immediate, 2, some 2, 0⟩,
  ⟨"BIT", .bit, .absolute, 3, some 4, 0⟩,
  ⟨"AND", .and, .absolute, 3, some 4, 0⟩,
  ⟨"ROL", .rol, .absolute, 3, some 6, 0⟩,
  ⟨"RLA", .illegal, .absolute, 3, some 6, 0⟩]

/-- Opcodes 0x30 to 0x3F. -/
def opRow3 : Vector Entry 16 := #v[
  ⟨"BMI", .bmi, .relative, 2, some 2, 1⟩,
  ⟨"AND", .and, .indirectY, 2, some 5, 1⟩,
  ⟨"KIL", .illegal, .implied, 1, none, 0⟩,
  ⟨"RLA", .illegal, .indirectY, 2, some 8, 0⟩,
  ⟨"NOP", .illegal, .zeroPageX, 2, some 4, 0⟩,
  ⟨"AND", .and, .zeroPageX, 2, some 4, 0⟩,
  ⟨"ROL", .rol, .zeroPageX, 2, some 6, 0⟩,
  ⟨"RLA", .illegal, .zeroPageX, 2, some 6, 0⟩,
  ⟨"SEC", .sec, .implied, 1, some 2, 0⟩,
  ⟨"AND", .and, .absoluteY, 3, some 4, 1⟩,
  ⟨"NOP", .illegal, .implied, 1, some 2, 0⟩,
  ⟨"RLA", .illegal, .absoluteY, 3, some 7, 0⟩,
  ⟨"NOP", .illegal, .absoluteX, 3, some 4, 1⟩,
  ⟨"AND", .and, .absoluteX, 3, some 4, 1⟩,
  ⟨"ROL", .rol, .absoluteX, 3, some 7, 0⟩,
  ⟨"RLA", .illegal, .absoluteX, 3, some 7, 0⟩]

/-- Opcodes 0x40 to 0x4F. -/
def opRow4 : Vector Entry 16 := #v[
  ⟨"RTI", .rti, .implied, 1, some 6, 0⟩,
  ⟨"EOR", .eor, .indirectX, 2, some 6, 0⟩,
  ⟨"KIL", .illegal, .implied, 1, none, 0⟩,
  ⟨"SRE", .illegal, .indirectX, 2, some 8, 0⟩,
  ⟨"NOP", .illegal, .zeroPage, 2, some 3, 0⟩,
  ⟨"EOR", .eor, .zeroPage, 2, some 3, 0⟩,
  ⟨"LSR", .lsr, .zeroPage, 2, some 5, 0⟩,
  ⟨"SRE", .illegal, .zeroPage, 2, some 5, 0⟩,
  ⟨"PHA", .pha, .implied, 1, some 3, 0⟩,
  ⟨"EOR", .eor, .immediate, 2, some 2, 0⟩,
  ⟨"LSR", .lsr, .accumulator, 1, some 2, 0⟩,
  ⟨"ALR", .illegal, .immediate, 2, some 2, 0⟩,
  ⟨"JMP", .jmp, .absolute, 3, some 3, 0⟩,
  ⟨"EOR", .eor, .absolute, 3, some 4, 0⟩,
  ⟨"LSR", .lsr, .absolute, 3, some 6, 0⟩,
  ⟨"SRE", .illegal, .absolute, 3, some 6, 0⟩]

/-- Opcodes 0x50 to 0x5F. -/
def opRow5 : Vector Entry 16 := #v[
  ⟨"BVC", .bvc, .relative, 2, some 2, 1⟩,
  ⟨"EOR", .eor, .indirectY, 2, some 5, 1⟩,
  ⟨"KIL", .illegal, .implied, 1, none, 0⟩,
  ⟨"SRE", .illegal, .indirectY, 2, some 8, 0⟩,
  ⟨"NOP", .illegal, .zeroPageX, 2, some 4, 0⟩,
  ⟨"EOR", .eor, .zeroPageX, 2, some 4, 0⟩,
  ⟨"LSR", .lsr, .zeroPageX, 2, some 6, 0⟩,
  ⟨"SRE", .illegal, .zeroPageX, 2, some 6, 0⟩,
  ⟨"CLI", .cli, .implied, 1, some 2, 0⟩,
  ⟨"EOR", .eor, .absoluteY, 3, some 4, 1⟩,
  ⟨"NOP", .illegal, .implied, 1, some 2, 0⟩,
  ⟨"SRE", .illegal, .absoluteY, 3, some 7, 0⟩,
  ⟨"NOP", .illegal, .absoluteX, 3, some 4, 1⟩,
  ⟨"EOR", .eor, .absoluteX, 3, some 4, 1⟩,
  ⟨"LSR", .lsr, .absoluteX, 3, some 7, 0⟩,
  ⟨"SRE", .illegal, .absoluteX, 3, some 7, 0⟩]

/-- Opcodes 0x60 to 0x6F. -/
def opRow6 : Vector Entry 16 := #v[
  ⟨"RTS", .rts, .implied, 1, some 6, 0⟩,
  ⟨"ADC", .adc, .indirectX, 2, some 6, 0⟩,
  ⟨"KIL", .illegal, .implied, 1, none, 0⟩,
  ⟨"RRA", .illegal, .indirectX, 2, some 8, 0⟩,
  ⟨"NOP", .illegal, .zeroPage, 2, some 3, 0⟩,
  ⟨"ADC", .adc, .zeroPage, 2, some 3, 0⟩,
  ⟨"ROR", .ror, .zeroPage, 2, some 5, 0⟩,
  ⟨"RRA", .illegal, .zeroPage, 2, some 5, 0⟩,
  ⟨"PLA", .pla, .implied, 1, some 4, 0⟩,
  ⟨"ADC", .adc, .immediate, 2, some 2, 0⟩,
  ⟨"ROR", .ror, .accumulator, 1, some 2, 0⟩,
  ⟨"ARR", .illegal, .immediate, 2, some 2, 0⟩,
  ⟨"JMP", .jmp, .indirect, 3, some 5, 0⟩,
  ⟨"ADC", .adc, .absolute, 3, some 4, 0⟩,
  ⟨"ROR", .ror, .absolute, 3, some 6, 0⟩,
  ⟨"RRA", .illegal, .absolute, 3, some 6, 0⟩]

/-- Opcodes 0x70 to 0x7F. -/
def opRow7 : Vector Entry 16 := #v[
  ⟨"BVS", .bvs, .relative, 2, some 2, 1⟩,
  ⟨"ADC", .adc, .indirectY, 2, some 5, 1⟩,
  ⟨"KIL", .illegal, .implied, 1, none, 0⟩,
  ⟨"RRA", .illegal, .indirectY, 2, some 8, 0⟩,
  ⟨"NOP", .illegal, .zeroPageX, 2, some 4, 0⟩,
  ⟨"ADC", .adc, .zeroPageX, 2, some 4, 0⟩,
  ⟨"ROR", .ror, .zeroPageX, 2, some 6, 0⟩,
  ⟨"RRA", .illegal, .zeroPageX, 2, some 6, 0⟩,
  ⟨"SEI", .sei, .implied, 1, some 2, 0⟩,
  ⟨"ADC", .adc, .absoluteY, 3, some 4, 1⟩,
  ⟨"NOP", .illegal, .implied, 1, some 2, 0⟩,
  ⟨"RRA", .illegal, .absoluteY, 3, some 7, 0⟩,
  ⟨"NOP", .illegal, .absoluteX, 3, some 4, 1⟩,
  ⟨"ADC", .adc, .absoluteX, 3, some 4, 1⟩,
  ⟨"ROR", .ror, .absoluteX, 3, some 7, 0⟩,
  ⟨"RRA", .illegal, .absoluteX, 3, some 7, 0⟩]

/-- Opcodes 0x80 to 0x8F. -/
def opRow8 : Vector Entry 16 := #v[
  ⟨"NOP", .illegal, .immediate, 2, some 2, 0⟩,
  ⟨"STA", .sta, .indirectX, 2, some 6, 0⟩,
  ⟨"NOP", .illegal, .immediate, 2, some 2, 0⟩,
  ⟨"SAX", .illegal, .indirectX, 2, some 6, 0⟩,
  ⟨"STY", .sty, .zeroPage, 2, some 3, 0⟩,
  ⟨"STA", .sta, .zeroPage, 2, some 3, 0⟩,
  ⟨"STX", .stx, .zeroPage, 2, some 3, 0⟩,
  ⟨"SAX", .illegal, .zeroPage, 2, some 3, 0⟩,
  ⟨"DEY", .dey, .implied, 1, some 2, 0⟩,
  ⟨"NOP", .illegal, .immediate, 2, some 2, 0⟩,
  ⟨"TXA", .txa, .implied, 1, some 2, 0⟩,
  ⟨"XAA", .illegal, .immediate, 2, some 2, 0⟩,
  ⟨"STY", .sty, .absolute, 3, some 4, 0⟩,
  ⟨"STA", .sta, .absolute, 3, some 4, 0⟩,
  ⟨"STX", .stx, .absolute, 3, some 4, 0⟩,
  ⟨"SAX", .illegal, .absolute, 3, some 4, 0⟩]

/-- Opcodes 0x90 to 0x9F. -/
def opRow9 : Vector Entry 16 := #v[
  ⟨"BCC", .bcc, .relative, 2, some 2, 1⟩,
  ⟨"STA", .sta, .indirectY, 2, some 6, 0⟩,
  ⟨"KIL", .illegal, .implied, 1, none, 0⟩,
  ⟨"AHX", .illegal, .indirectY, 2, some 6, 0⟩,
  ⟨"STY", .sty, .zeroPageX, 2, some 4, 0⟩,
  ⟨"STA", .sta, .zeroPageX, 2, some 4, 0⟩,
  ⟨"STX", .stx, .zeroPageY, 2, some 4, 0⟩,
  ⟨"SAX", .illegal, .zeroPageY, 2, some 4, 0⟩,
  ⟨"TYA", .tya, .implied, 1, some 2, 0⟩,
  ⟨"STA", .sta, .absoluteY, 3, some 5, 0⟩,
  ⟨"TXS", .txs, .implied, 1, some 2, 0⟩,
  ⟨"TAS", .illegal, .absoluteY, 3, some 5, 0⟩,
  ⟨"SHY", .illegal, .absoluteX, 3, some 5, 0⟩,
  ⟨"STA", .sta, .absoluteX, 3, some 5, 0⟩,
  ⟨"SHX", .illegal, .absoluteY, 3, some 5, 0⟩,
  ⟨"AHX", .illegal, .absoluteY, 3, some 5, 0⟩]

/-- Opcodes 0xA0 to 0xAF. -/
def opRowA : Vector Entry 16 := #v[
  ⟨"LDY", .ldy, .immediate, 2, some 2, 0⟩,
  ⟨"LDA", .lda, .indirectX, 2, some 6, 0⟩,
  ⟨"LDX", .ldx, .immediate, 2, some 2, 0⟩,
  ⟨"LAX", .illegal, .indirectX, 2, some 6, 0⟩,
  ⟨"LDY", .ldy, .zeroPage, 2, some 3, 0⟩,
  ⟨"LDA", .lda, .zeroPage, 2, some 3, 0⟩,
  ⟨"LDX", .ldx, .zeroPage, 2, some 3, 0⟩,
  ⟨"LAX", .illegal, .zeroPage, 2, some 3, 0⟩,
  ⟨"TAY", .tay, .implied, 1, some 2, 0⟩,
  ⟨"LDA", .lda, .immediate, 2, some 2, 0⟩,
  ⟨"TAX", .tax, .implied, 1, some 2, 0⟩,
  ⟨"LAX", .illegal, .immediate, 2, some 2, 0⟩,
  ⟨"LDY", .ldy, .absolute, 3, some 4, 0⟩,
  ⟨"LDA", .lda, .absolute, 3, some 4, 0⟩,
  ⟨"LDX", .ldx, .absolute, 3, some 4, 0⟩,
  ⟨"LAX", .illegal, .absolute, 3, some 4, 0⟩]

/-- Opcodes 0xB0 to 0xBF. -/
def opRowB : Vector Entry 16 := #v[
  ⟨"BCS", .bcs, .relative, 2, some 2, 1⟩,
  ⟨"LDA", .lda, .indirectY, 2, some 5, 1⟩,
  ⟨"KIL", .illegal, .implied, 1, none, 0⟩,
  ⟨"LAX", .illegal, .indirectY, 2, some 5, 1⟩,
  ⟨"LDY", .ldy, .zeroPageX, 2, some 4, 0⟩,
  ⟨"LDA", .lda, .zeroPageX, 2, some 4, 0⟩,
  ⟨"LDX", .ldx, .zeroPageY, 2, some 4, 0⟩,
  ⟨"LAX", .illegal, .zeroPageY, 2, some 4, 0⟩,
  ⟨"CLV", .clv, .implied, 1, some 2, 0⟩,
  ⟨"LDA", .lda, .absoluteY, 3, some 4, 1⟩,
  ⟨"TSX", .tsx, .implied, 1, some 2, 0⟩,
  ⟨"LAS", .illegal, .absoluteY, 3, some 4, 1⟩,
  ⟨"LDY", .ldy, .absoluteX, 3, some 4, 1⟩,
  ⟨"LDA", .lda, .absoluteX, 3, some 4, 1⟩,
  ⟨"LDX", .ldx, .absoluteY, 3, some 4, 1⟩,
  ⟨"LAX", .illegal, .absoluteY, 3, some 4, 1⟩]

/-- Opcodes 0xC0 to 0xCF. -/
def opRowC : Vector Entry 16 := #v[
  ⟨"CPY", .cpy, .immediate, 2, some 2, 0⟩,
  ⟨"CMP", .cmp, .indirectX, 2, some 6, 0⟩,
  ⟨"NOP", .illegal, .immediate, 2, some 2, 0⟩,
  ⟨"DCP", .illegal, .indirectX, 2, some 8, 0⟩,
  ⟨"CPY", .cpy, .zeroPage, 2, some 3, 0⟩,
  ⟨"CMP", .cmp, .zeroPage, 2, some 3, 0⟩,
  ⟨"DEC", .dec, .zeroPage, 2, some 5, 0⟩,
  ⟨"DCP", .illegal, .zeroPage, 2, some 5, 0⟩,
  ⟨"INY", .iny, .implied, 1, some 2, 0⟩,
  ⟨"CMP", .cmp, .immediate, 2, some 2, 0⟩,
  ⟨"DEX", .dex, .implied, 1, some 2, 0⟩,
  ⟨"AXS", .illegal, .immediate, 2, some 2, 0⟩,
  ⟨"CPY", .cpy, .absolute, 3, some 4, 0⟩,
  ⟨"CMP", .cmp, .absolute, 3, some 4, 0⟩,
  ⟨"DEC", .dec, .absolute, 3, some 6, 0⟩,
  ⟨"DCP", .illegal, .absolute, 3, some 6, 0⟩]

/-- Opcodes 0xD0 to 0xDF. -/
def opRowD : Vector Entry 16 := #v[
  ⟨"BNE", .bne, .relative, 2, some 2, 1⟩,
  ⟨"CMP", .cmp, .indirectY, 2, some 5, 1⟩,
  ⟨"KIL", .illegal, .implied, 1, none, 0⟩,
  ⟨"DCP", .illegal, .indirectY, 2, some 8, 0⟩,
  ⟨"NOP", .illegal, .zeroPageX, 2, some 4, 0⟩,
  ⟨"CMP", .cmp, .zeroPageX, 2, some 4, 0⟩,
  ⟨"DEC", .dec, .zeroPageX, 2, some 6, 0⟩,
  ⟨"DCP", .illegal, .zeroPageX, 2, some 6, 0⟩,
  ⟨"CLD", .cld, .implied, 1, some 2, 0⟩,
  ⟨"CMP", .cmp, .absoluteY, 3, some 4, 1⟩,
  ⟨"NOP", .illegal, .implied, 1, some 2, 0⟩,
  ⟨"DCP", .illegal, .absoluteY, 3, some 7, 0⟩,
  ⟨"NOP", .illegal, .absoluteX, 3, some 4, 1⟩,
  ⟨"CMP", .cmp, .absoluteX, 3, some 4, 1⟩,
  ⟨"DEC", .dec, .absoluteX, 3, some 7, 0⟩,
  ⟨"DCP", .illegal, .absoluteX, 3, some 7, 0⟩]

/-- Opcodes 0xE0 to 0xEF. -/
def opRowE : Vector Entry 16 := #v[
  ⟨"CPX", .cpx, .immediate, 2, some 2, 0⟩,
  ⟨"SBC", .sbc, .indirectX, 2, some 6, 0⟩,
  ⟨"NOP", .illegal, .immediate, 2, some 2, 0⟩,
  ⟨"ISC", .illegal, .indirectX, 2, some 8, 0⟩,
  ⟨"CPX", .cpx, .zeroPage, 2, some 3, 0⟩,
  ⟨"SBC", .sbc, .zeroPage, 2, some 3, 0⟩,
  ⟨"INC", .inc, .zeroPage, 2, some 5, 0⟩,
  ⟨"ISC", .illegal, .zeroPage, 2, some 5, 0⟩,
  ⟨"INX", .inx, .implied, 1, some 2, 0⟩,
  ⟨"SBC", .sbc, .immediate, 2, some 2, 0⟩,
  ⟨"NOP", .nop, .implied, 1, some 2, 0⟩,
  ⟨"SBC", .illegal, .immediate, 2, some 2, 0⟩,
  ⟨"CPX", .cpx, .absolute, 3, some 4, 0⟩,
  ⟨"SBC", .sbc, .absolute, 3, some 4, 0⟩,
  ⟨"INC", .inc, .absolute, 3, some 6, 0⟩,
  ⟨"ISC", .illegal, .absolute, 3, some 6, 0⟩]

/-- Opcodes 0xF0 to 0xFF. -/
def opRowF : Vector Entry 16 := #v[
  ⟨"BEQ", .beq, .relative, 2, some 2, 1⟩,
  ⟨"SBC", .sbc, .indirectY, 2, some 5, 1⟩,
  ⟨"KIL", .illegal, .implied, 1, none, 0⟩,
  ⟨"ISC", .illegal, .indirectY, 2, some 8, 0⟩,
  ⟨"NOP", .illegal, .zeroPageX, 2, some 4, 0⟩,
  ⟨"SBC", .sbc, .zeroPageX, 2, some 4, 0⟩,
  ⟨"INC", .inc, .zeroPageX, 2, some 6, 0⟩,
  ⟨"ISC", .illegal, .zeroPageX, 2, some 6, 0⟩,
  ⟨"SED", .sed, .implied, 1, some 2, 0⟩,
  ⟨"SBC", .sbc, .absoluteY, 3, some 4, 1⟩,
  ⟨"NOP", .illegal, .implied, 1, some 2, 0⟩,
  ⟨"ISC", .illegal, .absoluteY, 3, some 7, 0⟩,
  ⟨"NOP", .illegal, .absoluteX, 3, some 4, 1⟩,
  ⟨"SBC", .sbc, .absoluteX, 3, some 4, 1⟩,
  ⟨"INC", .inc, .absoluteX, 3, some 7, 0⟩,
  ⟨"ISC", .illegal, .absoluteX, 3, some 7, 0⟩]

/-- The whole table, row by row (R66). -/
def opMatrix : Vector (Vector Entry 16) 16 := #v[
  opRow0, opRow1, opRow2, opRow3, opRow4, opRow5, opRow6, opRow7,
  opRow8, opRow9, opRowA, opRowB, opRowC, opRowD, opRowE, opRowF]

/-- `OpTable[op]` (R80): "exactly 256 entries indexed by opcode value" (R64). -/
def entryOf (op : Byte) : Entry :=
  (opMatrix[op.toNat / 16]'(by have := op.isLt; omega))[op.toNat % 16]'(Nat.mod_lt _ (by decide))

/-- `e.cycles` of R85: the table's number, or `Cfg.KIL_CYCLES` where it has none (R212). -/
def baseCycles (e : Entry) : Nat := e.cycles.getD Config.kilCycles

/-- A legal opcode is one whose handler is not the illegal one (R68). -/
def isLegal (e : Entry) : Bool := e.handler != .illegal

/-! ### The decoder (R60 to R62, R64) -/

/-- The instructions of opcodes 0x00 to 0x0F, of the operand byte `b` or the operand word `w`. -/
def instrRow0 : Vector (Byte → Word → Instr) 16 := #v[
  fun _ _ => .brk,
  fun b _ => .oraIzx b,
  fun _ _ => .kil02,
  fun b _ => .sloIzx03 b,
  fun b _ => .nopZp04 b,
  fun b _ => .oraZp b,
  fun b _ => .aslZp b,
  fun b _ => .sloZp07 b,
  fun _ _ => .php,
  fun b _ => .oraImm b,
  fun _ _ => .aslAcc,
  fun b _ => .ancImm0B b,
  fun _ w => .nopAbs0C w,
  fun _ w => .oraAbs w,
  fun _ w => .aslAbs w,
  fun _ w => .sloAbs0F w]

/-- The instructions of opcodes 0x10 to 0x1F, of the operand byte `b` or the operand word `w`. -/
def instrRow1 : Vector (Byte → Word → Instr) 16 := #v[
  fun b _ => .bpl b,
  fun b _ => .oraIzy b,
  fun _ _ => .kil12,
  fun b _ => .sloIzy13 b,
  fun b _ => .nopZpx14 b,
  fun b _ => .oraZpx b,
  fun b _ => .aslZpx b,
  fun b _ => .sloZpx17 b,
  fun _ _ => .clc,
  fun _ w => .oraAby w,
  fun _ _ => .nopImp1A,
  fun _ w => .sloAby1B w,
  fun _ w => .nopAbx1C w,
  fun _ w => .oraAbx w,
  fun _ w => .aslAbx w,
  fun _ w => .sloAbx1F w]

/-- The instructions of opcodes 0x20 to 0x2F, of the operand byte `b` or the operand word `w`. -/
def instrRow2 : Vector (Byte → Word → Instr) 16 := #v[
  fun _ w => .jsrAbs w,
  fun b _ => .andIzx b,
  fun _ _ => .kil22,
  fun b _ => .rlaIzx23 b,
  fun b _ => .bitZp b,
  fun b _ => .andZp b,
  fun b _ => .rolZp b,
  fun b _ => .rlaZp27 b,
  fun _ _ => .plp,
  fun b _ => .andImm b,
  fun _ _ => .rolAcc,
  fun b _ => .ancImm2B b,
  fun _ w => .bitAbs w,
  fun _ w => .andAbs w,
  fun _ w => .rolAbs w,
  fun _ w => .rlaAbs2F w]

/-- The instructions of opcodes 0x30 to 0x3F, of the operand byte `b` or the operand word `w`. -/
def instrRow3 : Vector (Byte → Word → Instr) 16 := #v[
  fun b _ => .bmi b,
  fun b _ => .andIzy b,
  fun _ _ => .kil32,
  fun b _ => .rlaIzy33 b,
  fun b _ => .nopZpx34 b,
  fun b _ => .andZpx b,
  fun b _ => .rolZpx b,
  fun b _ => .rlaZpx37 b,
  fun _ _ => .sec,
  fun _ w => .andAby w,
  fun _ _ => .nopImp3A,
  fun _ w => .rlaAby3B w,
  fun _ w => .nopAbx3C w,
  fun _ w => .andAbx w,
  fun _ w => .rolAbx w,
  fun _ w => .rlaAbx3F w]

/-- The instructions of opcodes 0x40 to 0x4F, of the operand byte `b` or the operand word `w`. -/
def instrRow4 : Vector (Byte → Word → Instr) 16 := #v[
  fun _ _ => .rti,
  fun b _ => .eorIzx b,
  fun _ _ => .kil42,
  fun b _ => .sreIzx43 b,
  fun b _ => .nopZp44 b,
  fun b _ => .eorZp b,
  fun b _ => .lsrZp b,
  fun b _ => .sreZp47 b,
  fun _ _ => .pha,
  fun b _ => .eorImm b,
  fun _ _ => .lsrAcc,
  fun b _ => .alrImm4B b,
  fun _ w => .jmpAbs w,
  fun _ w => .eorAbs w,
  fun _ w => .lsrAbs w,
  fun _ w => .sreAbs4F w]

/-- The instructions of opcodes 0x50 to 0x5F, of the operand byte `b` or the operand word `w`. -/
def instrRow5 : Vector (Byte → Word → Instr) 16 := #v[
  fun b _ => .bvc b,
  fun b _ => .eorIzy b,
  fun _ _ => .kil52,
  fun b _ => .sreIzy53 b,
  fun b _ => .nopZpx54 b,
  fun b _ => .eorZpx b,
  fun b _ => .lsrZpx b,
  fun b _ => .sreZpx57 b,
  fun _ _ => .cli,
  fun _ w => .eorAby w,
  fun _ _ => .nopImp5A,
  fun _ w => .sreAby5B w,
  fun _ w => .nopAbx5C w,
  fun _ w => .eorAbx w,
  fun _ w => .lsrAbx w,
  fun _ w => .sreAbx5F w]

/-- The instructions of opcodes 0x60 to 0x6F, of the operand byte `b` or the operand word `w`. -/
def instrRow6 : Vector (Byte → Word → Instr) 16 := #v[
  fun _ _ => .rts,
  fun b _ => .adcIzx b,
  fun _ _ => .kil62,
  fun b _ => .rraIzx63 b,
  fun b _ => .nopZp64 b,
  fun b _ => .adcZp b,
  fun b _ => .rorZp b,
  fun b _ => .rraZp67 b,
  fun _ _ => .pla,
  fun b _ => .adcImm b,
  fun _ _ => .rorAcc,
  fun b _ => .arrImm6B b,
  fun _ w => .jmpInd w,
  fun _ w => .adcAbs w,
  fun _ w => .rorAbs w,
  fun _ w => .rraAbs6F w]

/-- The instructions of opcodes 0x70 to 0x7F, of the operand byte `b` or the operand word `w`. -/
def instrRow7 : Vector (Byte → Word → Instr) 16 := #v[
  fun b _ => .bvs b,
  fun b _ => .adcIzy b,
  fun _ _ => .kil72,
  fun b _ => .rraIzy73 b,
  fun b _ => .nopZpx74 b,
  fun b _ => .adcZpx b,
  fun b _ => .rorZpx b,
  fun b _ => .rraZpx77 b,
  fun _ _ => .sei,
  fun _ w => .adcAby w,
  fun _ _ => .nopImp7A,
  fun _ w => .rraAby7B w,
  fun _ w => .nopAbx7C w,
  fun _ w => .adcAbx w,
  fun _ w => .rorAbx w,
  fun _ w => .rraAbx7F w]

/-- The instructions of opcodes 0x80 to 0x8F, of the operand byte `b` or the operand word `w`. -/
def instrRow8 : Vector (Byte → Word → Instr) 16 := #v[
  fun b _ => .nopImm80 b,
  fun b _ => .staIzx b,
  fun b _ => .nopImm82 b,
  fun b _ => .saxIzx83 b,
  fun b _ => .styZp b,
  fun b _ => .staZp b,
  fun b _ => .stxZp b,
  fun b _ => .saxZp87 b,
  fun _ _ => .dey,
  fun b _ => .nopImm89 b,
  fun _ _ => .txa,
  fun b _ => .xaaImm8B b,
  fun _ w => .styAbs w,
  fun _ w => .staAbs w,
  fun _ w => .stxAbs w,
  fun _ w => .saxAbs8F w]

/-- The instructions of opcodes 0x90 to 0x9F, of the operand byte `b` or the operand word `w`. -/
def instrRow9 : Vector (Byte → Word → Instr) 16 := #v[
  fun b _ => .bcc b,
  fun b _ => .staIzy b,
  fun _ _ => .kil92,
  fun b _ => .ahxIzy93 b,
  fun b _ => .styZpx b,
  fun b _ => .staZpx b,
  fun b _ => .stxZpy b,
  fun b _ => .saxZpy97 b,
  fun _ _ => .tya,
  fun _ w => .staAby w,
  fun _ _ => .txs,
  fun _ w => .tasAby9B w,
  fun _ w => .shyAbx9C w,
  fun _ w => .staAbx w,
  fun _ w => .shxAby9E w,
  fun _ w => .ahxAby9F w]

/-- The instructions of opcodes 0xA0 to 0xAF, of the operand byte `b` or the operand word `w`. -/
def instrRowA : Vector (Byte → Word → Instr) 16 := #v[
  fun b _ => .ldyImm b,
  fun b _ => .ldaIzx b,
  fun b _ => .ldxImm b,
  fun b _ => .laxIzxA3 b,
  fun b _ => .ldyZp b,
  fun b _ => .ldaZp b,
  fun b _ => .ldxZp b,
  fun b _ => .laxZpA7 b,
  fun _ _ => .tay,
  fun b _ => .ldaImm b,
  fun _ _ => .tax,
  fun b _ => .laxImmAB b,
  fun _ w => .ldyAbs w,
  fun _ w => .ldaAbs w,
  fun _ w => .ldxAbs w,
  fun _ w => .laxAbsAF w]

/-- The instructions of opcodes 0xB0 to 0xBF, of the operand byte `b` or the operand word `w`. -/
def instrRowB : Vector (Byte → Word → Instr) 16 := #v[
  fun b _ => .bcs b,
  fun b _ => .ldaIzy b,
  fun _ _ => .kilB2,
  fun b _ => .laxIzyB3 b,
  fun b _ => .ldyZpx b,
  fun b _ => .ldaZpx b,
  fun b _ => .ldxZpy b,
  fun b _ => .laxZpyB7 b,
  fun _ _ => .clv,
  fun _ w => .ldaAby w,
  fun _ _ => .tsx,
  fun _ w => .lasAbyBB w,
  fun _ w => .ldyAbx w,
  fun _ w => .ldaAbx w,
  fun _ w => .ldxAby w,
  fun _ w => .laxAbyBF w]

/-- The instructions of opcodes 0xC0 to 0xCF, of the operand byte `b` or the operand word `w`. -/
def instrRowC : Vector (Byte → Word → Instr) 16 := #v[
  fun b _ => .cpyImm b,
  fun b _ => .cmpIzx b,
  fun b _ => .nopImmC2 b,
  fun b _ => .dcpIzxC3 b,
  fun b _ => .cpyZp b,
  fun b _ => .cmpZp b,
  fun b _ => .decZp b,
  fun b _ => .dcpZpC7 b,
  fun _ _ => .iny,
  fun b _ => .cmpImm b,
  fun _ _ => .dex,
  fun b _ => .axsImmCB b,
  fun _ w => .cpyAbs w,
  fun _ w => .cmpAbs w,
  fun _ w => .decAbs w,
  fun _ w => .dcpAbsCF w]

/-- The instructions of opcodes 0xD0 to 0xDF, of the operand byte `b` or the operand word `w`. -/
def instrRowD : Vector (Byte → Word → Instr) 16 := #v[
  fun b _ => .bne b,
  fun b _ => .cmpIzy b,
  fun _ _ => .kilD2,
  fun b _ => .dcpIzyD3 b,
  fun b _ => .nopZpxD4 b,
  fun b _ => .cmpZpx b,
  fun b _ => .decZpx b,
  fun b _ => .dcpZpxD7 b,
  fun _ _ => .cld,
  fun _ w => .cmpAby w,
  fun _ _ => .nopImpDA,
  fun _ w => .dcpAbyDB w,
  fun _ w => .nopAbxDC w,
  fun _ w => .cmpAbx w,
  fun _ w => .decAbx w,
  fun _ w => .dcpAbxDF w]

/-- The instructions of opcodes 0xE0 to 0xEF, of the operand byte `b` or the operand word `w`. -/
def instrRowE : Vector (Byte → Word → Instr) 16 := #v[
  fun b _ => .cpxImm b,
  fun b _ => .sbcIzx b,
  fun b _ => .nopImmE2 b,
  fun b _ => .iscIzxE3 b,
  fun b _ => .cpxZp b,
  fun b _ => .sbcZp b,
  fun b _ => .incZp b,
  fun b _ => .iscZpE7 b,
  fun _ _ => .inx,
  fun b _ => .sbcImm b,
  fun _ _ => .nop,
  fun b _ => .sbcImmEB b,
  fun _ w => .cpxAbs w,
  fun _ w => .sbcAbs w,
  fun _ w => .incAbs w,
  fun _ w => .iscAbsEF w]

/-- The instructions of opcodes 0xF0 to 0xFF, of the operand byte `b` or the operand word `w`. -/
def instrRowF : Vector (Byte → Word → Instr) 16 := #v[
  fun b _ => .beq b,
  fun b _ => .sbcIzy b,
  fun _ _ => .kilF2,
  fun b _ => .iscIzyF3 b,
  fun b _ => .nopZpxF4 b,
  fun b _ => .sbcZpx b,
  fun b _ => .incZpx b,
  fun b _ => .iscZpxF7 b,
  fun _ _ => .sed,
  fun _ w => .sbcAby w,
  fun _ _ => .nopImpFA,
  fun _ w => .iscAbyFB w,
  fun _ w => .nopAbxFC w,
  fun _ w => .sbcAbx w,
  fun _ w => .incAbx w,
  fun _ w => .iscAbxFF w]

/-- The decoder's lookup, row by row (R60, R66). -/
def instrMatrix : Vector (Vector (Byte → Word → Instr) 16) 16 := #v[
  instrRow0, instrRow1, instrRow2, instrRow3, instrRow4, instrRow5, instrRow6, instrRow7,
  instrRow8, instrRow9, instrRowA, instrRowB, instrRowC, instrRowD, instrRowE, instrRowF]

/-- Decode an opcode byte with the two bytes that follow it: total, every one of the 256 values is an instruction (R64, R68). The
operand byte is the second byte, the operand word is little-endian (R61); a byte beyond the instruction's size is not looked at. -/
def decode (op b1 b2 : Byte) : Instr :=
  ((instrMatrix[op.toNat / 16]'(by have := op.isLt; omega))[op.toNat % 16]'(Nat.mod_lt _ (by decide))) b1 (mkWord b2 b1)

/-- Why a byte string is no instruction. No opcode is ever rejected (R64): only a string that ends too early is. -/
inductive DecodeReject where
  /-- There is no opcode byte. -/
  | noOpcode
  /-- The operand bytes that the opcode's size asks for are not all there (R60, R62). -/
  | missingOperand (op : Byte)
  deriving DecidableEq, Repr

/-- Decode the first instruction of a byte string and give the rest of the string: total on any bytes. The length is a
function of the opcode byte alone (R62). -/
def decodeBytes (bs : List Byte) : Except DecodeReject (Instr × List Byte) :=
  match bs with
  | [] => .error .noOpcode
  | op :: rest =>
    if rest.length + 1 < (entryOf op).size then .error (.missingOperand op)
    else .ok (decode op (rest.getD 0 0) (rest.getD 1 0), rest.drop ((entryOf op).size - 1))

/-! ### The encoder, written from the same table -/

/-- The opcode value and the operand of each instruction (the `match` and `mode` columns of opcode_table.json). -/
def Instr.coded : Instr → Byte × Operand
  | .brk => (0x00, .implied)
  | .oraIzx b => (0x01, .indirectX b)
  | .kil02 => (0x02, .implied)
  | .sloIzx03 b => (0x03, .indirectX b)
  | .nopZp04 b => (0x04, .zeroPage b)
  | .oraZp b => (0x05, .zeroPage b)
  | .aslZp b => (0x06, .zeroPage b)
  | .sloZp07 b => (0x07, .zeroPage b)
  | .php => (0x08, .implied)
  | .oraImm b => (0x09, .immediate b)
  | .aslAcc => (0x0A, .accumulator)
  | .ancImm0B b => (0x0B, .immediate b)
  | .nopAbs0C w => (0x0C, .absolute w)
  | .oraAbs w => (0x0D, .absolute w)
  | .aslAbs w => (0x0E, .absolute w)
  | .sloAbs0F w => (0x0F, .absolute w)
  | .bpl b => (0x10, .relative b)
  | .oraIzy b => (0x11, .indirectY b)
  | .kil12 => (0x12, .implied)
  | .sloIzy13 b => (0x13, .indirectY b)
  | .nopZpx14 b => (0x14, .zeroPageX b)
  | .oraZpx b => (0x15, .zeroPageX b)
  | .aslZpx b => (0x16, .zeroPageX b)
  | .sloZpx17 b => (0x17, .zeroPageX b)
  | .clc => (0x18, .implied)
  | .oraAby w => (0x19, .absoluteY w)
  | .nopImp1A => (0x1A, .implied)
  | .sloAby1B w => (0x1B, .absoluteY w)
  | .nopAbx1C w => (0x1C, .absoluteX w)
  | .oraAbx w => (0x1D, .absoluteX w)
  | .aslAbx w => (0x1E, .absoluteX w)
  | .sloAbx1F w => (0x1F, .absoluteX w)
  | .jsrAbs w => (0x20, .absolute w)
  | .andIzx b => (0x21, .indirectX b)
  | .kil22 => (0x22, .implied)
  | .rlaIzx23 b => (0x23, .indirectX b)
  | .bitZp b => (0x24, .zeroPage b)
  | .andZp b => (0x25, .zeroPage b)
  | .rolZp b => (0x26, .zeroPage b)
  | .rlaZp27 b => (0x27, .zeroPage b)
  | .plp => (0x28, .implied)
  | .andImm b => (0x29, .immediate b)
  | .rolAcc => (0x2A, .accumulator)
  | .ancImm2B b => (0x2B, .immediate b)
  | .bitAbs w => (0x2C, .absolute w)
  | .andAbs w => (0x2D, .absolute w)
  | .rolAbs w => (0x2E, .absolute w)
  | .rlaAbs2F w => (0x2F, .absolute w)
  | .bmi b => (0x30, .relative b)
  | .andIzy b => (0x31, .indirectY b)
  | .kil32 => (0x32, .implied)
  | .rlaIzy33 b => (0x33, .indirectY b)
  | .nopZpx34 b => (0x34, .zeroPageX b)
  | .andZpx b => (0x35, .zeroPageX b)
  | .rolZpx b => (0x36, .zeroPageX b)
  | .rlaZpx37 b => (0x37, .zeroPageX b)
  | .sec => (0x38, .implied)
  | .andAby w => (0x39, .absoluteY w)
  | .nopImp3A => (0x3A, .implied)
  | .rlaAby3B w => (0x3B, .absoluteY w)
  | .nopAbx3C w => (0x3C, .absoluteX w)
  | .andAbx w => (0x3D, .absoluteX w)
  | .rolAbx w => (0x3E, .absoluteX w)
  | .rlaAbx3F w => (0x3F, .absoluteX w)
  | .rti => (0x40, .implied)
  | .eorIzx b => (0x41, .indirectX b)
  | .kil42 => (0x42, .implied)
  | .sreIzx43 b => (0x43, .indirectX b)
  | .nopZp44 b => (0x44, .zeroPage b)
  | .eorZp b => (0x45, .zeroPage b)
  | .lsrZp b => (0x46, .zeroPage b)
  | .sreZp47 b => (0x47, .zeroPage b)
  | .pha => (0x48, .implied)
  | .eorImm b => (0x49, .immediate b)
  | .lsrAcc => (0x4A, .accumulator)
  | .alrImm4B b => (0x4B, .immediate b)
  | .jmpAbs w => (0x4C, .absolute w)
  | .eorAbs w => (0x4D, .absolute w)
  | .lsrAbs w => (0x4E, .absolute w)
  | .sreAbs4F w => (0x4F, .absolute w)
  | .bvc b => (0x50, .relative b)
  | .eorIzy b => (0x51, .indirectY b)
  | .kil52 => (0x52, .implied)
  | .sreIzy53 b => (0x53, .indirectY b)
  | .nopZpx54 b => (0x54, .zeroPageX b)
  | .eorZpx b => (0x55, .zeroPageX b)
  | .lsrZpx b => (0x56, .zeroPageX b)
  | .sreZpx57 b => (0x57, .zeroPageX b)
  | .cli => (0x58, .implied)
  | .eorAby w => (0x59, .absoluteY w)
  | .nopImp5A => (0x5A, .implied)
  | .sreAby5B w => (0x5B, .absoluteY w)
  | .nopAbx5C w => (0x5C, .absoluteX w)
  | .eorAbx w => (0x5D, .absoluteX w)
  | .lsrAbx w => (0x5E, .absoluteX w)
  | .sreAbx5F w => (0x5F, .absoluteX w)
  | .rts => (0x60, .implied)
  | .adcIzx b => (0x61, .indirectX b)
  | .kil62 => (0x62, .implied)
  | .rraIzx63 b => (0x63, .indirectX b)
  | .nopZp64 b => (0x64, .zeroPage b)
  | .adcZp b => (0x65, .zeroPage b)
  | .rorZp b => (0x66, .zeroPage b)
  | .rraZp67 b => (0x67, .zeroPage b)
  | .pla => (0x68, .implied)
  | .adcImm b => (0x69, .immediate b)
  | .rorAcc => (0x6A, .accumulator)
  | .arrImm6B b => (0x6B, .immediate b)
  | .jmpInd w => (0x6C, .indirect w)
  | .adcAbs w => (0x6D, .absolute w)
  | .rorAbs w => (0x6E, .absolute w)
  | .rraAbs6F w => (0x6F, .absolute w)
  | .bvs b => (0x70, .relative b)
  | .adcIzy b => (0x71, .indirectY b)
  | .kil72 => (0x72, .implied)
  | .rraIzy73 b => (0x73, .indirectY b)
  | .nopZpx74 b => (0x74, .zeroPageX b)
  | .adcZpx b => (0x75, .zeroPageX b)
  | .rorZpx b => (0x76, .zeroPageX b)
  | .rraZpx77 b => (0x77, .zeroPageX b)
  | .sei => (0x78, .implied)
  | .adcAby w => (0x79, .absoluteY w)
  | .nopImp7A => (0x7A, .implied)
  | .rraAby7B w => (0x7B, .absoluteY w)
  | .nopAbx7C w => (0x7C, .absoluteX w)
  | .adcAbx w => (0x7D, .absoluteX w)
  | .rorAbx w => (0x7E, .absoluteX w)
  | .rraAbx7F w => (0x7F, .absoluteX w)
  | .nopImm80 b => (0x80, .immediate b)
  | .staIzx b => (0x81, .indirectX b)
  | .nopImm82 b => (0x82, .immediate b)
  | .saxIzx83 b => (0x83, .indirectX b)
  | .styZp b => (0x84, .zeroPage b)
  | .staZp b => (0x85, .zeroPage b)
  | .stxZp b => (0x86, .zeroPage b)
  | .saxZp87 b => (0x87, .zeroPage b)
  | .dey => (0x88, .implied)
  | .nopImm89 b => (0x89, .immediate b)
  | .txa => (0x8A, .implied)
  | .xaaImm8B b => (0x8B, .immediate b)
  | .styAbs w => (0x8C, .absolute w)
  | .staAbs w => (0x8D, .absolute w)
  | .stxAbs w => (0x8E, .absolute w)
  | .saxAbs8F w => (0x8F, .absolute w)
  | .bcc b => (0x90, .relative b)
  | .staIzy b => (0x91, .indirectY b)
  | .kil92 => (0x92, .implied)
  | .ahxIzy93 b => (0x93, .indirectY b)
  | .styZpx b => (0x94, .zeroPageX b)
  | .staZpx b => (0x95, .zeroPageX b)
  | .stxZpy b => (0x96, .zeroPageY b)
  | .saxZpy97 b => (0x97, .zeroPageY b)
  | .tya => (0x98, .implied)
  | .staAby w => (0x99, .absoluteY w)
  | .txs => (0x9A, .implied)
  | .tasAby9B w => (0x9B, .absoluteY w)
  | .shyAbx9C w => (0x9C, .absoluteX w)
  | .staAbx w => (0x9D, .absoluteX w)
  | .shxAby9E w => (0x9E, .absoluteY w)
  | .ahxAby9F w => (0x9F, .absoluteY w)
  | .ldyImm b => (0xA0, .immediate b)
  | .ldaIzx b => (0xA1, .indirectX b)
  | .ldxImm b => (0xA2, .immediate b)
  | .laxIzxA3 b => (0xA3, .indirectX b)
  | .ldyZp b => (0xA4, .zeroPage b)
  | .ldaZp b => (0xA5, .zeroPage b)
  | .ldxZp b => (0xA6, .zeroPage b)
  | .laxZpA7 b => (0xA7, .zeroPage b)
  | .tay => (0xA8, .implied)
  | .ldaImm b => (0xA9, .immediate b)
  | .tax => (0xAA, .implied)
  | .laxImmAB b => (0xAB, .immediate b)
  | .ldyAbs w => (0xAC, .absolute w)
  | .ldaAbs w => (0xAD, .absolute w)
  | .ldxAbs w => (0xAE, .absolute w)
  | .laxAbsAF w => (0xAF, .absolute w)
  | .bcs b => (0xB0, .relative b)
  | .ldaIzy b => (0xB1, .indirectY b)
  | .kilB2 => (0xB2, .implied)
  | .laxIzyB3 b => (0xB3, .indirectY b)
  | .ldyZpx b => (0xB4, .zeroPageX b)
  | .ldaZpx b => (0xB5, .zeroPageX b)
  | .ldxZpy b => (0xB6, .zeroPageY b)
  | .laxZpyB7 b => (0xB7, .zeroPageY b)
  | .clv => (0xB8, .implied)
  | .ldaAby w => (0xB9, .absoluteY w)
  | .tsx => (0xBA, .implied)
  | .lasAbyBB w => (0xBB, .absoluteY w)
  | .ldyAbx w => (0xBC, .absoluteX w)
  | .ldaAbx w => (0xBD, .absoluteX w)
  | .ldxAby w => (0xBE, .absoluteY w)
  | .laxAbyBF w => (0xBF, .absoluteY w)
  | .cpyImm b => (0xC0, .immediate b)
  | .cmpIzx b => (0xC1, .indirectX b)
  | .nopImmC2 b => (0xC2, .immediate b)
  | .dcpIzxC3 b => (0xC3, .indirectX b)
  | .cpyZp b => (0xC4, .zeroPage b)
  | .cmpZp b => (0xC5, .zeroPage b)
  | .decZp b => (0xC6, .zeroPage b)
  | .dcpZpC7 b => (0xC7, .zeroPage b)
  | .iny => (0xC8, .implied)
  | .cmpImm b => (0xC9, .immediate b)
  | .dex => (0xCA, .implied)
  | .axsImmCB b => (0xCB, .immediate b)
  | .cpyAbs w => (0xCC, .absolute w)
  | .cmpAbs w => (0xCD, .absolute w)
  | .decAbs w => (0xCE, .absolute w)
  | .dcpAbsCF w => (0xCF, .absolute w)
  | .bne b => (0xD0, .relative b)
  | .cmpIzy b => (0xD1, .indirectY b)
  | .kilD2 => (0xD2, .implied)
  | .dcpIzyD3 b => (0xD3, .indirectY b)
  | .nopZpxD4 b => (0xD4, .zeroPageX b)
  | .cmpZpx b => (0xD5, .zeroPageX b)
  | .decZpx b => (0xD6, .zeroPageX b)
  | .dcpZpxD7 b => (0xD7, .zeroPageX b)
  | .cld => (0xD8, .implied)
  | .cmpAby w => (0xD9, .absoluteY w)
  | .nopImpDA => (0xDA, .implied)
  | .dcpAbyDB w => (0xDB, .absoluteY w)
  | .nopAbxDC w => (0xDC, .absoluteX w)
  | .cmpAbx w => (0xDD, .absoluteX w)
  | .decAbx w => (0xDE, .absoluteX w)
  | .dcpAbxDF w => (0xDF, .absoluteX w)
  | .cpxImm b => (0xE0, .immediate b)
  | .sbcIzx b => (0xE1, .indirectX b)
  | .nopImmE2 b => (0xE2, .immediate b)
  | .iscIzxE3 b => (0xE3, .indirectX b)
  | .cpxZp b => (0xE4, .zeroPage b)
  | .sbcZp b => (0xE5, .zeroPage b)
  | .incZp b => (0xE6, .zeroPage b)
  | .iscZpE7 b => (0xE7, .zeroPage b)
  | .inx => (0xE8, .implied)
  | .sbcImm b => (0xE9, .immediate b)
  | .nop => (0xEA, .implied)
  | .sbcImmEB b => (0xEB, .immediate b)
  | .cpxAbs w => (0xEC, .absolute w)
  | .sbcAbs w => (0xED, .absolute w)
  | .incAbs w => (0xEE, .absolute w)
  | .iscAbsEF w => (0xEF, .absolute w)
  | .beq b => (0xF0, .relative b)
  | .sbcIzy b => (0xF1, .indirectY b)
  | .kilF2 => (0xF2, .implied)
  | .iscIzyF3 b => (0xF3, .indirectY b)
  | .nopZpxF4 b => (0xF4, .zeroPageX b)
  | .sbcZpx b => (0xF5, .zeroPageX b)
  | .incZpx b => (0xF6, .zeroPageX b)
  | .iscZpxF7 b => (0xF7, .zeroPageX b)
  | .sed => (0xF8, .implied)
  | .sbcAby w => (0xF9, .absoluteY w)
  | .nopImpFA => (0xFA, .implied)
  | .iscAbyFB w => (0xFB, .absoluteY w)
  | .nopAbxFC w => (0xFC, .absoluteX w)
  | .sbcAbx w => (0xFD, .absoluteX w)
  | .incAbx w => (0xFE, .absoluteX w)
  | .iscAbxFF w => (0xFF, .absoluteX w)

/-- The opcode byte (R60). -/
def Instr.opcode (i : Instr) : Byte := i.coded.1

/-- The operand (R61). -/
def Instr.operand (i : Instr) : Operand := i.coded.2

/-- The instruction's table entry (R71). -/
def Instr.entry (i : Instr) : Entry := entryOf i.opcode

/-- The handler the dispatch table names for the instruction (R71). -/
def Instr.handler (i : Instr) : Handler := i.entry.handler

/-- The operand bytes, low byte first (R60, R61). -/
def Operand.bytes : Operand → List Byte
  | .implied | .accumulator => []
  | .immediate b | .zeroPage b | .zeroPageX b | .zeroPageY b | .indirectX b | .indirectY b | .relative b => [b]
  | .absolute w | .absoluteX w | .absoluteY w | .indirect w => [loByte w, hiByte w]

/-- The bytes of an instruction, the first at the lowest address (R60). -/
def encode (i : Instr) : List Byte := i.opcode :: i.operand.bytes

/-- The bytes an instruction has in memory when its bits, numbered as opcode_table.json numbers them, are `w`: byte `k` is bits
`8k+7` to `8k`, and every bit from `nbits` up, to the longest instruction's third byte, is 0. -/
def tableBytes (nbits w : Nat) : List Byte :=
  let v := w % 2 ^ nbits
  [BitVec.ofNat 8 v, BitVec.ofNat 8 (v / 256), BitVec.ofNat 8 (v / 65536)]

/-- What the decoder reads from an instruction whose table bits are `w`. -/
def decodeTableWord (nbits w : Nat) : Option Instr :=
  match decodeBytes (tableBytes nbits w) with
  | .ok (i, _) => some i
  | .error _ => none

end Sys2Proof
end

