-- ==== Sys2Proof/Machine/State.lean ====
section
/-! DEFINITION. The state of the block (10_state.md R20): the registers, memory and the cycle counter, plus the model's own field `cfg`,
and the state after reset (R35). -/

namespace Sys2Proof.Machine

/-- `mem` (R32): the cells that differ from `Memory.unlisted`, by rising address. -/
abbrev Memory := List Host.Cell

/-- What an unlisted address reads as: every byte is 0x00 after construction (R35, 20_memory.md R41). -/
def Memory.unlisted : Byte := 0

/-- The canonical form above a floor: addresses rise strictly from `lo` on, stay below 65,536, and no cell holds the unlisted value. -/
def Memory.wfFrom (lo : Nat) : Memory → Bool
  | [] => true
  | (a, v) :: rest => decide (lo ≤ a) && decide (a < 65536) && v != Memory.unlisted && Memory.wfFrom (a + 1) rest

/-- The canonical form of a memory: equal memories are equal lists. -/
def Memory.wf (m : Memory) : Bool := Memory.wfFrom 0 m

/-- The four 8-bit registers that `x[r]` names (R10, R20). -/
inductive Reg where
  | A
  | X
  | Y
  | S
  deriving DecidableEq, Repr

/-- The eight flags of `P` (R24). -/
inductive Flag where
  | C
  | Z
  | I
  | D
  | B
  | U
  | V
  | N
  deriving DecidableEq, Repr

structure State where
  /-- `A`, the accumulator (R21). -/
  a : Byte
  /-- `X`, an index register (R22). -/
  x : Byte
  /-- `Y`, an index register (R22). -/
  y : Byte
  /-- `S`, the stack pointer (R23). -/
  sp : Byte
  /-- `P`, the flags byte (R24, R25). -/
  p : Byte
  /-- `PC`, the program counter (R27). -/
  pc : Word
  /-- `mem` (R32). -/
  mem : Memory
  /-- `cycles`, the running cycle counter (R33). -/
  cycles : Nat
  /-- The configuration this instance was built with (00_scope.md R6): constant, not state of the spec (log 1). -/
  cfg : Cfg
  deriving DecidableEq, Repr

/-- Why a step can fault: never. "No step faults" (40_engine_addressing_flags.md R86), so there is no constructor; nothing raises a
fault, and claims lose nothing by it (safe). -/
inductive Fault where
  deriving DecidableEq, Repr

/-- Why a step can be refused. -/
inductive Refusal where
  /-- Raised by a dispatch arm whose instruction has no meaning yet. No arm raises it: every instruction is modelled (safe). -/
  | notModelled (mnemonic : String)
  deriving DecidableEq, Repr

/-- The outcome of an instruction or of a step. -/
abbrev Res := Host.Outcome State Fault Refusal

/-- `construct()` (70_reset_and_hazards.md R250, R258) of an instance with configuration `cfg`: every register zero except the
Unused bit of `P`, memory zero, `cycles = 0` (R35). -/
def State.construct (cfg : Cfg) : State :=
  { a := 0x00, x := 0x00, y := 0x00, sp := 0x00, p := 0x20, pc := 0x0000, mem := [], cycles := 0, cfg := cfg }

/-- The machine right after reset, which is construction (R250), with R6's default configuration (log 1). -/
def State.reset : State := State.construct Config.default

/-- `x[r]` (R10). -/
def State.reg (s : State) : Reg → Byte
  | .A => s.a
  | .X => s.x
  | .Y => s.y
  | .S => s.sp

/-- `x[r] <- v` (R10). -/
def State.setReg (s : State) (r : Reg) (v : Byte) : State :=
  match r with
  | .A => { s with a := v }
  | .X => { s with x := v }
  | .Y => { s with y := v }
  | .S => { s with sp := v }

/-- `P <- v` (R10). -/
def State.setP (s : State) (v : Byte) : State := { s with p := v }

/-- `pc <- target` (R10). -/
def State.setPc (s : State) (target : Word) : State := { s with pc := target }

/-- Replace the memory. -/
def State.setMem (s : State) (m : Memory) : State := { s with mem := m }

/-- `cycles <- cycles + n` (R10, R33). -/
def State.addCycles (s : State) (n : Nat) : State := { s with cycles := s.cycles + n }

end Sys2Proof.Machine
end

