-- ==== Sys2Proof/Machine/Flags.lean ====
section
/-! DEFINITION. The status flag logic: single flags of `P` (40_engine_addressing_flags.md R104), the flag computations R100 to R103, the
compare rule (43_shift_incdec_compare.md R160) and the bit functions of the shifts (R150 to R153). -/

namespace Sys2Proof.Machine

/-- The bit of `P` that holds a flag (10_state.md R24). -/
def flagBit : Flag → Nat
  | .C => 0
  | .Z => 1
  | .I => 2
  | .D => 3
  | .B => 4
  | .U => 5
  | .V => 6
  | .N => 7

/-- `get_flag(f)` of a flags byte (R104). -/
def getFlag (f : Flag) (p : Byte) : Bool := p.getLsbD (flagBit f)

/-- `set_flag(f, v)` on a flags byte: "sets or clears exactly the one bit" (R104). -/
def setFlag (f : Flag) (v : Bool) (p : Byte) : Byte :=
  if v then p ||| (1#8 <<< flagBit f) else p &&& ~~~(1#8 <<< flagBit f)

/-- `P.f` (00_scope.md R10). -/
def State.flag (s : State) (f : Flag) : Bool := getFlag f s.p

/-- `P.f <- v` (00_scope.md R10). -/
def State.withFlag (s : State) (f : Flag) (v : Bool) : State := s.setP (setFlag f v s.p)

/-- `SetZN(v)` (R100). -/
def setZN (v : Byte) (s : State) : State := (s.withFlag .Z (v == 0)).withFlag .N v.msb

/-- `SetNV_bits(v)` (R101). -/
def setNVBits (v : Byte) (s : State) : State := (s.withFlag .N (v.getLsbD 7)).withFlag .V (v.getLsbD 6)

/-- The shared signed-overflow rule (R102): the operands share a sign bit and the result's differs from theirs. -/
def addOverflow (r a b : Byte) : Bool := (a.msb == b.msb) && (r.msb != a.msb)

/-- `t` of the adder: "the raw 9-bit sum" (R103). -/
def rawSum (a m : Byte) (c : Bool) : Nat := a.toNat + m.toNat + c.toNat

/-- `AddWithCarry(m)` (R103): the one adder. -/
def addWithCarry (m : Byte) (s : State) : State :=
  let t := rawSum (s.reg .A) m (s.flag .C)
  let r := BitVec.ofNat 8 t
  setZN r (((s.withFlag .C (decide (t > 0xFF))).withFlag .V (addOverflow r (s.reg .A) m)).setReg .A r)

/-- The compare rule (R160 to R162): Carry iff the register is at least the operand, unsigned; Z and N of the wrapped difference. -/
def compareWith (r m : Byte) (s : State) : State := setZN (r - m) (s.withFlag .C (decide (r.toNat ≥ m.toNat)))

/-- ASL (R150): the result and the bit shifted out, of the operand and the old Carry. -/
def aslBits (v : Byte) (_ : Bool) : Byte × Bool := (v <<< 1, v.msb)

/-- LSR (R151). -/
def lsrBits (v : Byte) (_ : Bool) : Byte × Bool := (v >>> 1, v.getLsbD 0)

/-- ROL (R152): the old Carry enters at bit 0. -/
def rolBits (v : Byte) (c : Bool) : Byte × Bool := ((v <<< 1) ||| (if c then 1#8 else 0#8), v.msb)

/-- ROR (R153): the old Carry enters at bit 7. -/
def rorBits (v : Byte) (c : Bool) : Byte × Bool := ((v >>> 1) ||| (if c then 0x80#8 else 0#8), v.getLsbD 0)

end Sys2Proof.Machine
end

