-- ==== Sys2Proof/Machine/Ops.lean ====
section
/-! DEFINITION. The named operations over memory and the stack (20_memory.md R42 to R45, 10_state.md R28 to R31), and the one
operation that enters a handler through a vector and the one that returns from it (60_exceptions.md R228, R229, R233). -/

namespace Sys2Proof.Machine

/-! ### Memory -/

/-- The byte at an address of the list form. -/
def Memory.read : Memory → Nat → Byte
  | [], _ => Memory.unlisted
  | (k, u) :: rest, a => if k = a then u else Memory.read rest a

/-- Remove every cell of an address. -/
def Memory.erase (m : Memory) (a : Nat) : Memory := m.filter fun c => !(c.1 == a)

/-- Put a cell in front of the first higher address. -/
def Memory.insertCell (a : Nat) (v : Byte) : Memory → Memory
  | [] => [(a, v)]
  | (k, u) :: rest => if a < k then (a, v) :: (k, u) :: rest else (k, u) :: Memory.insertCell a v rest

/-- Write a byte and keep the canonical form: writing the unlisted value removes the cell. -/
def Memory.write (m : Memory) (a : Nat) (v : Byte) : Memory :=
  if v = Memory.unlisted then Memory.erase m a else Memory.insertCell a v (Memory.erase m a)

/-- `MemRead(addr, 1)` (R42): always succeeds, changes nothing. -/
def State.readByte (s : State) (a : Word) : Byte := Memory.read s.mem a.toNat

/-- `MemWrite(addr, 1, v)` (R43): always succeeds, changes no other byte and no register. -/
def State.writeByte (s : State) (a : Word) (v : Byte) : State := s.setMem (Memory.write s.mem a.toNat v)

/-- `MemRead(addr, 2)` (R44): little-endian, the second address mod 65536. -/
def State.readWord (s : State) (a : Word) : Word := mkWord (s.readByte (a + 1)) (s.readByte a)

/-- `MemWrite(addr, 2, w)` (R45): the low byte, then the high byte at the next address mod 65536. -/
def State.writeWord (s : State) (a w : Word) : State := (s.writeByte a (loByte w)).writeByte (a + 1) (hiByte w)

/-- A list of single-byte stores, in order. -/
def State.writeAll (s : State) (stores : List (Word × Byte)) : State :=
  s.setMem (stores.foldl (fun m c => Memory.write m c.1.toNat c.2) s.mem)

/-! ### The stack (10_state.md R23, R28 to R31) -/

/-- `0x0100 | S`: where the stack pointer points (R23). -/
def stackAddr (sp : Byte) : Word := mkWord 0x01 sp

/-- `Push8(v)` (R28): "push decrements after writing". -/
def push8 (v : Byte) (s : State) : State :=
  (s.writeByte (stackAddr (s.reg .S)) v).setReg .S (s.reg .S - 1)

/-- `Pull8()` (R29): "pull increments before reading". The byte and the state after. -/
def pull8 (s : State) : Byte × State :=
  let t := s.setReg .S (s.reg .S + 1)
  (t.readByte (stackAddr (t.reg .S)), t)

/-- `Push16(w)` (R30, D11): the high byte first. -/
def push16 (w : Word) (s : State) : State := push8 (loByte w) (push8 (hiByte w) s)

/-- `Pull16()` (R31, D11): the low byte first. -/
def pull16 (s : State) : Word × State :=
  let lo := pull8 s
  let hi := pull8 lo.2
  (mkWord hi.1 lo.1, hi.2)

/-! ### Entering a handler and returning from it -/

/-- The NMI vector's address (60_exceptions.md R230). -/
def nmiVector : Word := 0xFFFA

/-- The address of the vector that IRQ and BRK share (60_exceptions.md R230). -/
def irqVector : Word := 0xFFFE

/-- What BRK (R194), NMI and IRQ (R228) share: push the return word, push a flags byte, put a flags byte into `P`, and load `PC` from
the vector. The vector is read after the pushes. -/
def enterVector (ret : Word) (pushed live : Byte) (vec : Word) (s : State) : State :=
  let t := push8 pushed (push16 ret s)
  (t.setP live).setPc (t.readWord vec)

/-- `PushedFlags(P)` (R229): bit 4 as `Cfg.INT_PUSHED_B` says, every other bit as it stands. -/
def pushedFlags (b : PushedB) (p : Byte) : Byte :=
  match b with
  | .keep => p
  | .clear => setFlag .B false p
  | .set => setFlag .B true p

/-- `InterruptEntry(vec)` (R228): the entry sequence of NMI and IRQ, 7 cycles. -/
def interruptEntry (vec : Word) (s : State) : State :=
  (enterVector s.pc (pushedFlags s.cfg.intPushedB s.p) (setFlag .I true s.p) vec s).addCycles 7

/-- The return from an interrupt (R182, R233, D13): pull the flags byte, all eight bits, then `PC`, with no adjustment. -/
def returnFromInterrupt (s : State) : State :=
  let f := pull8 s
  let w := pull16 f.2
  (w.2.setP f.1).setPc w.1

end Sys2Proof.Machine
end

