-- ==== Sys2Proof/Machine/Operands.lean ====
section
/-! DEFINITION. The addressing-mode resolver (40_engine_addressing_flags.md R87 to R99), the execution context (R81), and the reads and
writes a handler makes through it. -/

namespace Sys2Proof.Machine

/-- `sext_16(b)` (00_scope.md R10). -/
def sext16 (b : Byte) : Word := b.signExtend 16

/-- `zext_16(b)` (00_scope.md R10): also an address in the zero page. -/
def zext16 (b : Byte) : Word := b.setWidth 16

/-- `ZpPtr(p)` (R94, D2): the word a zero-page pointer points at. Only a pointer at 0xFF depends on `Cfg.ZP_PTR_WRAP`. -/
def zpPtr (p : Byte) (s : State) : Word :=
  let high : Word := if p = 0xFF ∧ s.cfg.zpPtrWrap then 0x0000 else zext16 p + 1
  mkWord (s.readByte high) (s.readByte (zext16 p))

/-- The word that the pointer of an Indirect operand points at (R93, D1). Only a pointer at `xxFF` depends on
`Cfg.JMP_IND_PAGE_WRAP`. -/
def indirectPtr (w : Word) (s : State) : Word :=
  let high : Word := if loByte w = 0xFF ∧ s.cfg.jmpIndPageWrap then mkWord (hiByte w) 0x00 else w + 1
  mkWord (s.readByte high) (s.readByte w)

/-- `Resolve(mode, pc0)` (R87): the effective address, with `pc0` the state's `PC`. The resolver writes nothing. -/
def resolve (o : Operand) (s : State) : Word :=
  match o with
  | .absolute w => w
  | .absoluteX w => w + zext16 (s.reg .X)
  | .absoluteY w => w + zext16 (s.reg .Y)
  | .accumulator => 0
  | .immediate _ => s.pc + 1
  | .implied => 0
  | .indirect w => indirectPtr w s
  | .indirectX b => zpPtr (b + s.reg .X) s
  | .indirectY b => zpPtr b s + zext16 (s.reg .Y)
  | .relative b => s.pc + sext16 b
  | .zeroPage b => zext16 b
  | .zeroPageX b => zext16 (b + s.reg .X)
  | .zeroPageY b => zext16 (b + s.reg .Y)

/-- The execution context handed to a handler (R81); the addressing mode comes with the operand. -/
structure Ctx where
  /-- The effective address. -/
  ea : Word
  /-- `PC` when the step began. -/
  pc0 : Word
  /-- The operand, whose constructor is the mode. -/
  operand : Operand
  /-- The instruction size. -/
  size : Nat

/-- The operand byte of a handler: the accumulator for the Accumulator mode (R150); for Immediate, the operand byte `b`, which is the
byte at `ea` (R92, log 4); otherwise the memory byte at `ea`. -/
def operandByte (o : Operand) (ea : Word) (s : State) : Byte :=
  match o with
  | .accumulator => s.reg .A
  | .immediate b => b
  | .absolute _ | .absoluteX _ | .absoluteY _ | .implied | .indirect _ | .indirectX _ | .indirectY _ | .relative _
  | .zeroPage _ | .zeroPageX _ | .zeroPageY _ => s.readByte ea

/-- `MemRead(ea, 1)` of a handler. -/
def Ctx.read (c : Ctx) (s : State) : Byte := operandByte c.operand c.ea s

/-- Write the result of a shift or rotate back: `if mode = Accumulator then A <- r else MemWrite(ea, 1, r)` (R150). -/
def Ctx.writeBack (c : Ctx) (r : Byte) (s : State) : State :=
  match c.operand with
  | .accumulator => s.setReg .A r
  | .absolute _ | .absoluteX _ | .absoluteY _ | .immediate _ | .implied | .indirect _ | .indirectX _ | .indirectY _
  | .relative _ | .zeroPage _ | .zeroPageX _ | .zeroPageY _ => s.writeByte c.ea r

/-- Fetch and decode the instruction at `PC` (R80, R61): the opcode byte and the two bytes after it, each address mod 65536. A byte
beyond the instruction's size is read without effect (20_memory.md R42, log 5). -/
def fetchInstr (s : State) : Instr := decode (s.readByte s.pc) (s.readByte (s.pc + 1)) (s.readByte (s.pc + 2))

end Sys2Proof.Machine
end

