-- ==== Sys2Proof/Machine/Engine.lean ====
section
/-! DEFINITION. What every instruction shares (40_engine_addressing_flags.md R80 to R85): resolve, hand the context to the handler,
give `PC` its end-of-step value, account the cycles. -/

namespace Sys2Proof.Machine

/-- The page-cross penalty (R85, D25): the page of the end-of-step `PC` against the page of `ea`. -/
def pagePenalty (e : Entry) (pc ea : Word) : Nat := if e.penalty > 0 ∧ hiByte pc ≠ hiByte ea then e.penalty else 0

/-- Step 5 of the engine (R85), on the state whose `PC` has its end-of-step value. -/
def account (e : Entry) (ea : Word) (s : State) : State :=
  s.addCycles (baseCycles e + pagePenalty e s.pc ea)

/-- The context of an instruction of opcode `op` and operand `o` (R81). -/
def contextOf (op : Byte) (o : Operand) (s : State) : Ctx :=
  { ea := resolve o s, pc0 := s.pc, operand := o, size := (entryOf op).size }

/-- `next`: the address of the instruction that follows in memory (00_scope.md R10, R82). -/
def nextPc (op : Byte) (s : State) : Word := s.pc + BitVec.ofNat 16 (entryOf op).size

/-- The step around a handler (R80): `PC` is `next` unless the handler executes `pc <- target` (R82), and the cycles are accounted
last (R85). -/
def perform (op : Byte) (o : Operand) (handler : Ctx → State → State) (s : State) : State :=
  account (entryOf op) (resolve o s) (handler (contextOf op o s) (s.setPc (nextPc op s)))

/-- A step always completes: "every opcode handler, once dispatched, completes" (R80, R86). -/
def runOp (op : Byte) (o : Operand) (handler : Ctx → State → State) (s : State) : Res :=
  .next (perform op o handler s)

end Sys2Proof.Machine
end

