-- ==== Sys2Proof/Machine/Arith.lean ====
section
/-! DEFINITION. Binary addition and subtraction (42_logical_arithmetic.md R134 to R136): the handlers, and one meaning per row of
opcode_table.json. -/

namespace Sys2Proof.Machine

/-- ADC (R134, D9). Binary whatever `P.D` holds. -/
def opAdc (c : Ctx) (s : State) : State :=
  addWithCarry (c.read s) s

/-- 0x61 `ADC (b,X)`, R134. -/
def execAdcIzx (b : Byte) (s : State) : Res := runOp 0x61 (.indirectX b) opAdc s

/-- 0x65 `ADC b`, R134. -/
def execAdcZp (b : Byte) (s : State) : Res := runOp 0x65 (.zeroPage b) opAdc s

/-- 0x69 `ADC #b`, R134. -/
def execAdcImm (b : Byte) (s : State) : Res := runOp 0x69 (.immediate b) opAdc s

/-- 0x6D `ADC w`, R134. -/
def execAdcAbs (w : Word) (s : State) : Res := runOp 0x6D (.absolute w) opAdc s

/-- 0x71 `ADC (b),Y`, R134. -/
def execAdcIzy (b : Byte) (s : State) : Res := runOp 0x71 (.indirectY b) opAdc s

/-- 0x75 `ADC b,X`, R134. -/
def execAdcZpx (b : Byte) (s : State) : Res := runOp 0x75 (.zeroPageX b) opAdc s

/-- 0x79 `ADC w,Y`, R134. -/
def execAdcAby (w : Word) (s : State) : Res := runOp 0x79 (.absoluteY w) opAdc s

/-- 0x7D `ADC w,X`, R134. -/
def execAdcAbx (w : Word) (s : State) : Res := runOp 0x7D (.absoluteX w) opAdc s

/-- SBC (R135, D14). The adder on the one's complement of the operand. -/
def opSbc (c : Ctx) (s : State) : State :=
  addWithCarry (c.read s ^^^ 0xFF) s

/-- 0xE1 `SBC (b,X)`, R135. -/
def execSbcIzx (b : Byte) (s : State) : Res := runOp 0xE1 (.indirectX b) opSbc s

/-- 0xE5 `SBC b`, R135. -/
def execSbcZp (b : Byte) (s : State) : Res := runOp 0xE5 (.zeroPage b) opSbc s

/-- 0xE9 `SBC #b`, R135. -/
def execSbcImm (b : Byte) (s : State) : Res := runOp 0xE9 (.immediate b) opSbc s

/-- 0xED `SBC w`, R135. -/
def execSbcAbs (w : Word) (s : State) : Res := runOp 0xED (.absolute w) opSbc s

/-- 0xF1 `SBC (b),Y`, R135. -/
def execSbcIzy (b : Byte) (s : State) : Res := runOp 0xF1 (.indirectY b) opSbc s

/-- 0xF5 `SBC b,X`, R135. -/
def execSbcZpx (b : Byte) (s : State) : Res := runOp 0xF5 (.zeroPageX b) opSbc s

/-- 0xF9 `SBC w,Y`, R135. -/
def execSbcAby (w : Word) (s : State) : Res := runOp 0xF9 (.absoluteY w) opSbc s

/-- 0xFD `SBC w,X`, R135. -/
def execSbcAbx (w : Word) (s : State) : Res := runOp 0xFD (.absoluteX w) opSbc s

end Sys2Proof.Machine
end

