-- ==== Sys2Proof/Machine/Branch.lean ====
section
/-! DEFINITION. The eight conditional branches (44_branch_jump.md R170 to R178): the handlers, and one meaning per row of
opcode_table.json. -/

namespace Sys2Proof.Machine

/-- The common rule of the branches (R170): the target is the Relative `ea` plus the size 2 (R96). Not taken, `PC` stays `next`. -/
def branchIf (cond : Bool) (c : Ctx) (s : State) : State := if cond then s.setPc (c.ea + 2) else s

/-- BCC (R171). -/
def opBcc (c : Ctx) (s : State) : State :=
  branchIf (!s.flag .C) c s

/-- 0x90 `BCC *+2+b`, R171. -/
def execBcc (b : Byte) (s : State) : Res := runOp 0x90 (.relative b) opBcc s

/-- BCS (R172). -/
def opBcs (c : Ctx) (s : State) : State :=
  branchIf (s.flag .C) c s

/-- 0xB0 `BCS *+2+b`, R172. -/
def execBcs (b : Byte) (s : State) : Res := runOp 0xB0 (.relative b) opBcs s

/-- BEQ (R173). -/
def opBeq (c : Ctx) (s : State) : State :=
  branchIf (s.flag .Z) c s

/-- 0xF0 `BEQ *+2+b`, R173. -/
def execBeq (b : Byte) (s : State) : Res := runOp 0xF0 (.relative b) opBeq s

/-- BNE (R174). -/
def opBne (c : Ctx) (s : State) : State :=
  branchIf (!s.flag .Z) c s

/-- 0xD0 `BNE *+2+b`, R174. -/
def execBne (b : Byte) (s : State) : Res := runOp 0xD0 (.relative b) opBne s

/-- BMI (R175). -/
def opBmi (c : Ctx) (s : State) : State :=
  branchIf (s.flag .N) c s

/-- 0x30 `BMI *+2+b`, R175. -/
def execBmi (b : Byte) (s : State) : Res := runOp 0x30 (.relative b) opBmi s

/-- BPL (R176). -/
def opBpl (c : Ctx) (s : State) : State :=
  branchIf (!s.flag .N) c s

/-- 0x10 `BPL *+2+b`, R176. -/
def execBpl (b : Byte) (s : State) : Res := runOp 0x10 (.relative b) opBpl s

/-- BVC (R177). -/
def opBvc (c : Ctx) (s : State) : State :=
  branchIf (!s.flag .V) c s

/-- 0x50 `BVC *+2+b`, R177. -/
def execBvc (b : Byte) (s : State) : Res := runOp 0x50 (.relative b) opBvc s

/-- BVS (R178). -/
def opBvs (c : Ctx) (s : State) : State :=
  branchIf (s.flag .V) c s

/-- 0x70 `BVS *+2+b`, R178. -/
def execBvs (b : Byte) (s : State) : Res := runOp 0x70 (.relative b) opBvs s

end Sys2Proof.Machine
end

