-- ==== Sys2Proof/Machine/Compare.lean ====
section
/-! DEFINITION. Compare instructions (43_shift_incdec_compare.md R160 to R162): the handlers, and one meaning per row of
opcode_table.json. -/

namespace Sys2Proof.Machine

/-- CMP (R160). -/
def opCmp (c : Ctx) (s : State) : State :=
  compareWith (s.reg .A) (c.read s) s

/-- 0xC1 `CMP (b,X)`, R160. -/
def execCmpIzx (b : Byte) (s : State) : Res := runOp 0xC1 (.indirectX b) opCmp s

/-- 0xC5 `CMP b`, R160. -/
def execCmpZp (b : Byte) (s : State) : Res := runOp 0xC5 (.zeroPage b) opCmp s

/-- 0xC9 `CMP #b`, R160. -/
def execCmpImm (b : Byte) (s : State) : Res := runOp 0xC9 (.immediate b) opCmp s

/-- 0xCD `CMP w`, R160. -/
def execCmpAbs (w : Word) (s : State) : Res := runOp 0xCD (.absolute w) opCmp s

/-- 0xD1 `CMP (b),Y`, R160. -/
def execCmpIzy (b : Byte) (s : State) : Res := runOp 0xD1 (.indirectY b) opCmp s

/-- 0xD5 `CMP b,X`, R160. -/
def execCmpZpx (b : Byte) (s : State) : Res := runOp 0xD5 (.zeroPageX b) opCmp s

/-- 0xD9 `CMP w,Y`, R160. -/
def execCmpAby (w : Word) (s : State) : Res := runOp 0xD9 (.absoluteY w) opCmp s

/-- 0xDD `CMP w,X`, R160. -/
def execCmpAbx (w : Word) (s : State) : Res := runOp 0xDD (.absoluteX w) opCmp s

/-- CPX (R161). -/
def opCpx (c : Ctx) (s : State) : State :=
  compareWith (s.reg .X) (c.read s) s

/-- 0xE0 `CPX #b`, R161. -/
def execCpxImm (b : Byte) (s : State) : Res := runOp 0xE0 (.immediate b) opCpx s

/-- 0xE4 `CPX b`, R161. -/
def execCpxZp (b : Byte) (s : State) : Res := runOp 0xE4 (.zeroPage b) opCpx s

/-- 0xEC `CPX w`, R161. -/
def execCpxAbs (w : Word) (s : State) : Res := runOp 0xEC (.absolute w) opCpx s

/-- CPY (R162). -/
def opCpy (c : Ctx) (s : State) : State :=
  compareWith (s.reg .Y) (c.read s) s

/-- 0xC0 `CPY #b`, R162. -/
def execCpyImm (b : Byte) (s : State) : Res := runOp 0xC0 (.immediate b) opCpy s

/-- 0xC4 `CPY b`, R162. -/
def execCpyZp (b : Byte) (s : State) : Res := runOp 0xC4 (.zeroPage b) opCpy s

/-- 0xCC `CPY w`, R162. -/
def execCpyAbs (w : Word) (s : State) : Res := runOp 0xCC (.absolute w) opCpy s

end Sys2Proof.Machine
end

