-- ==== Sys2Proof/Machine/FlagOps.lean ====
section
/-! DEFINITION. Flag set and clear instructions (45_stack_system_flags.md R196 to R202): the handlers, and one meaning per row of
opcode_table.json. -/

namespace Sys2Proof.Machine

/-- CLC (R196). -/
def opClc (_ : Ctx) (s : State) : State :=
  s.withFlag .C false

/-- 0x18 `CLC`, R196. -/
def execClc (s : State) : Res := runOp 0x18 .implied opClc s

/-- SEC (R197). -/
def opSec (_ : Ctx) (s : State) : State :=
  s.withFlag .C true

/-- 0x38 `SEC`, R197. -/
def execSec (s : State) : Res := runOp 0x38 .implied opSec s

/-- CLI (R198). -/
def opCli (_ : Ctx) (s : State) : State :=
  s.withFlag .I false

/-- 0x58 `CLI`, R198. -/
def execCli (s : State) : Res := runOp 0x58 .implied opCli s

/-- SEI (R199). -/
def opSei (_ : Ctx) (s : State) : State :=
  s.withFlag .I true

/-- 0x78 `SEI`, R199. -/
def execSei (s : State) : Res := runOp 0x78 .implied opSei s

/-- CLD (R200). -/
def opCld (_ : Ctx) (s : State) : State :=
  s.withFlag .D false

/-- 0xD8 `CLD`, R200. -/
def execCld (s : State) : Res := runOp 0xD8 .implied opCld s

/-- SED (R201). -/
def opSed (_ : Ctx) (s : State) : State :=
  s.withFlag .D true

/-- 0xF8 `SED`, R201. -/
def execSed (s : State) : Res := runOp 0xF8 .implied opSed s

/-- CLV (R202). -/
def opClv (_ : Ctx) (s : State) : State :=
  s.withFlag .V false

/-- 0xB8 `CLV`, R202. -/
def execClv (s : State) : Res := runOp 0xB8 .implied opClv s

end Sys2Proof.Machine
end

