-- ==== Sys2Proof/Machine/Illegal.lean ====
section
/-! DEFINITION. The 105 illegal opcodes (46_illegal_opcodes.md R210 to R214): the handlers, and one meaning per row of
opcode_table.json. -/

namespace Sys2Proof.Machine

/-- The contract of every illegal opcode (R210): the uninterpreted effect on `A`, `X`, `Y`, `S`, `P` and memory; `PC` ends at `next` and the
cycles are those of the table, like any sequential instruction's. FREE VALUE (log 2). -/
def opIllegal (op : Byte) (c : Ctx) (s : State) : State :=
  let r := Config.illegalEffect op c.ea (s.reg .A) (s.reg .X) (s.reg .Y) (s.reg .S) s.p s.mem
  (((((s.writeAll r.stores).setReg .A r.a).setReg .X r.x).setReg .Y r.y).setReg .S r.s).setP r.p

/-- 0x02 `KIL`, R212. -/
def execKil02 (s : State) : Res := runOp 0x02 .implied (opIllegal 0x02) s

/-- 0x03 `SLO (b,X)`, R210. -/
def execSloIzx03 (b : Byte) (s : State) : Res := runOp 0x03 (.indirectX b) (opIllegal 0x03) s

/-- 0x04 `NOP b`, R213. -/
def execNopZp04 (b : Byte) (s : State) : Res := runOp 0x04 (.zeroPage b) (opIllegal 0x04) s

/-- 0x07 `SLO b`, R210. -/
def execSloZp07 (b : Byte) (s : State) : Res := runOp 0x07 (.zeroPage b) (opIllegal 0x07) s

/-- 0x0B `ANC #b`, R210. -/
def execAncImm0B (b : Byte) (s : State) : Res := runOp 0x0B (.immediate b) (opIllegal 0x0B) s

/-- 0x0C `NOP w`, R213. -/
def execNopAbs0C (w : Word) (s : State) : Res := runOp 0x0C (.absolute w) (opIllegal 0x0C) s

/-- 0x0F `SLO w`, R210. -/
def execSloAbs0F (w : Word) (s : State) : Res := runOp 0x0F (.absolute w) (opIllegal 0x0F) s

/-- 0x12 `KIL`, R212. -/
def execKil12 (s : State) : Res := runOp 0x12 .implied (opIllegal 0x12) s

/-- 0x13 `SLO (b),Y`, R210. -/
def execSloIzy13 (b : Byte) (s : State) : Res := runOp 0x13 (.indirectY b) (opIllegal 0x13) s

/-- 0x14 `NOP b,X`, R213. -/
def execNopZpx14 (b : Byte) (s : State) : Res := runOp 0x14 (.zeroPageX b) (opIllegal 0x14) s

/-- 0x17 `SLO b,X`, R210. -/
def execSloZpx17 (b : Byte) (s : State) : Res := runOp 0x17 (.zeroPageX b) (opIllegal 0x17) s

/-- 0x1A `NOP`, R213. -/
def execNopImp1A (s : State) : Res := runOp 0x1A .implied (opIllegal 0x1A) s

/-- 0x1B `SLO w,Y`, R210. -/
def execSloAby1B (w : Word) (s : State) : Res := runOp 0x1B (.absoluteY w) (opIllegal 0x1B) s

/-- 0x1C `NOP w,X`, R213. -/
def execNopAbx1C (w : Word) (s : State) : Res := runOp 0x1C (.absoluteX w) (opIllegal 0x1C) s

/-- 0x1F `SLO w,X`, R210. -/
def execSloAbx1F (w : Word) (s : State) : Res := runOp 0x1F (.absoluteX w) (opIllegal 0x1F) s

/-- 0x22 `KIL`, R212. -/
def execKil22 (s : State) : Res := runOp 0x22 .implied (opIllegal 0x22) s

/-- 0x23 `RLA (b,X)`, R210. -/
def execRlaIzx23 (b : Byte) (s : State) : Res := runOp 0x23 (.indirectX b) (opIllegal 0x23) s

/-- 0x27 `RLA b`, R210. -/
def execRlaZp27 (b : Byte) (s : State) : Res := runOp 0x27 (.zeroPage b) (opIllegal 0x27) s

/-- 0x2B `ANC #b`, R210. -/
def execAncImm2B (b : Byte) (s : State) : Res := runOp 0x2B (.immediate b) (opIllegal 0x2B) s

/-- 0x2F `RLA w`, R210. -/
def execRlaAbs2F (w : Word) (s : State) : Res := runOp 0x2F (.absolute w) (opIllegal 0x2F) s

/-- 0x32 `KIL`, R212. -/
def execKil32 (s : State) : Res := runOp 0x32 .implied (opIllegal 0x32) s

/-- 0x33 `RLA (b),Y`, R210. -/
def execRlaIzy33 (b : Byte) (s : State) : Res := runOp 0x33 (.indirectY b) (opIllegal 0x33) s

/-- 0x34 `NOP b,X`, R213. -/
def execNopZpx34 (b : Byte) (s : State) : Res := runOp 0x34 (.zeroPageX b) (opIllegal 0x34) s

/-- 0x37 `RLA b,X`, R210. -/
def execRlaZpx37 (b : Byte) (s : State) : Res := runOp 0x37 (.zeroPageX b) (opIllegal 0x37) s

/-- 0x3A `NOP`, R213. -/
def execNopImp3A (s : State) : Res := runOp 0x3A .implied (opIllegal 0x3A) s

/-- 0x3B `RLA w,Y`, R210. -/
def execRlaAby3B (w : Word) (s : State) : Res := runOp 0x3B (.absoluteY w) (opIllegal 0x3B) s

/-- 0x3C `NOP w,X`, R213. -/
def execNopAbx3C (w : Word) (s : State) : Res := runOp 0x3C (.absoluteX w) (opIllegal 0x3C) s

/-- 0x3F `RLA w,X`, R210. -/
def execRlaAbx3F (w : Word) (s : State) : Res := runOp 0x3F (.absoluteX w) (opIllegal 0x3F) s

/-- 0x42 `KIL`, R212. -/
def execKil42 (s : State) : Res := runOp 0x42 .implied (opIllegal 0x42) s

/-- 0x43 `SRE (b,X)`, R210. -/
def execSreIzx43 (b : Byte) (s : State) : Res := runOp 0x43 (.indirectX b) (opIllegal 0x43) s

/-- 0x44 `NOP b`, R213. -/
def execNopZp44 (b : Byte) (s : State) : Res := runOp 0x44 (.zeroPage b) (opIllegal 0x44) s

/-- 0x47 `SRE b`, R210. -/
def execSreZp47 (b : Byte) (s : State) : Res := runOp 0x47 (.zeroPage b) (opIllegal 0x47) s

/-- 0x4B `ALR #b`, R210. -/
def execAlrImm4B (b : Byte) (s : State) : Res := runOp 0x4B (.immediate b) (opIllegal 0x4B) s

/-- 0x4F `SRE w`, R210. -/
def execSreAbs4F (w : Word) (s : State) : Res := runOp 0x4F (.absolute w) (opIllegal 0x4F) s

/-- 0x52 `KIL`, R212. -/
def execKil52 (s : State) : Res := runOp 0x52 .implied (opIllegal 0x52) s

/-- 0x53 `SRE (b),Y`, R210. -/
def execSreIzy53 (b : Byte) (s : State) : Res := runOp 0x53 (.indirectY b) (opIllegal 0x53) s

/-- 0x54 `NOP b,X`, R213. -/
def execNopZpx54 (b : Byte) (s : State) : Res := runOp 0x54 (.zeroPageX b) (opIllegal 0x54) s

/-- 0x57 `SRE b,X`, R210. -/
def execSreZpx57 (b : Byte) (s : State) : Res := runOp 0x57 (.zeroPageX b) (opIllegal 0x57) s

/-- 0x5A `NOP`, R213. -/
def execNopImp5A (s : State) : Res := runOp 0x5A .implied (opIllegal 0x5A) s

/-- 0x5B `SRE w,Y`, R210. -/
def execSreAby5B (w : Word) (s : State) : Res := runOp 0x5B (.absoluteY w) (opIllegal 0x5B) s

/-- 0x5C `NOP w,X`, R213. -/
def execNopAbx5C (w : Word) (s : State) : Res := runOp 0x5C (.absoluteX w) (opIllegal 0x5C) s

/-- 0x5F `SRE w,X`, R210. -/
def execSreAbx5F (w : Word) (s : State) : Res := runOp 0x5F (.absoluteX w) (opIllegal 0x5F) s

/-- 0x62 `KIL`, R212. -/
def execKil62 (s : State) : Res := runOp 0x62 .implied (opIllegal 0x62) s

/-- 0x63 `RRA (b,X)`, R210. -/
def execRraIzx63 (b : Byte) (s : State) : Res := runOp 0x63 (.indirectX b) (opIllegal 0x63) s

/-- 0x64 `NOP b`, R213. -/
def execNopZp64 (b : Byte) (s : State) : Res := runOp 0x64 (.zeroPage b) (opIllegal 0x64) s

/-- 0x67 `RRA b`, R210. -/
def execRraZp67 (b : Byte) (s : State) : Res := runOp 0x67 (.zeroPage b) (opIllegal 0x67) s

/-- 0x6B `ARR #b`, R210. -/
def execArrImm6B (b : Byte) (s : State) : Res := runOp 0x6B (.immediate b) (opIllegal 0x6B) s

/-- 0x6F `RRA w`, R210. -/
def execRraAbs6F (w : Word) (s : State) : Res := runOp 0x6F (.absolute w) (opIllegal 0x6F) s

/-- 0x72 `KIL`, R212. -/
def execKil72 (s : State) : Res := runOp 0x72 .implied (opIllegal 0x72) s

/-- 0x73 `RRA (b),Y`, R210. -/
def execRraIzy73 (b : Byte) (s : State) : Res := runOp 0x73 (.indirectY b) (opIllegal 0x73) s

/-- 0x74 `NOP b,X`, R213. -/
def execNopZpx74 (b : Byte) (s : State) : Res := runOp 0x74 (.zeroPageX b) (opIllegal 0x74) s

/-- 0x77 `RRA b,X`, R210. -/
def execRraZpx77 (b : Byte) (s : State) : Res := runOp 0x77 (.zeroPageX b) (opIllegal 0x77) s

/-- 0x7A `NOP`, R213. -/
def execNopImp7A (s : State) : Res := runOp 0x7A .implied (opIllegal 0x7A) s

/-- 0x7B `RRA w,Y`, R210. -/
def execRraAby7B (w : Word) (s : State) : Res := runOp 0x7B (.absoluteY w) (opIllegal 0x7B) s

/-- 0x7C `NOP w,X`, R213. -/
def execNopAbx7C (w : Word) (s : State) : Res := runOp 0x7C (.absoluteX w) (opIllegal 0x7C) s

/-- 0x7F `RRA w,X`, R210. -/
def execRraAbx7F (w : Word) (s : State) : Res := runOp 0x7F (.absoluteX w) (opIllegal 0x7F) s

/-- 0x80 `NOP #b`, R213. -/
def execNopImm80 (b : Byte) (s : State) : Res := runOp 0x80 (.immediate b) (opIllegal 0x80) s

/-- 0x82 `NOP #b`, R213. -/
def execNopImm82 (b : Byte) (s : State) : Res := runOp 0x82 (.immediate b) (opIllegal 0x82) s

/-- 0x83 `SAX (b,X)`, R210. -/
def execSaxIzx83 (b : Byte) (s : State) : Res := runOp 0x83 (.indirectX b) (opIllegal 0x83) s

/-- 0x87 `SAX b`, R210. -/
def execSaxZp87 (b : Byte) (s : State) : Res := runOp 0x87 (.zeroPage b) (opIllegal 0x87) s

/-- 0x89 `NOP #b`, R213. -/
def execNopImm89 (b : Byte) (s : State) : Res := runOp 0x89 (.immediate b) (opIllegal 0x89) s

/-- 0x8B `XAA #b`, R210. -/
def execXaaImm8B (b : Byte) (s : State) : Res := runOp 0x8B (.immediate b) (opIllegal 0x8B) s

/-- 0x8F `SAX w`, R210. -/
def execSaxAbs8F (w : Word) (s : State) : Res := runOp 0x8F (.absolute w) (opIllegal 0x8F) s

/-- 0x92 `KIL`, R212. -/
def execKil92 (s : State) : Res := runOp 0x92 .implied (opIllegal 0x92) s

/-- 0x93 `AHX (b),Y`, R210. -/
def execAhxIzy93 (b : Byte) (s : State) : Res := runOp 0x93 (.indirectY b) (opIllegal 0x93) s

/-- 0x97 `SAX b,Y`, R210. -/
def execSaxZpy97 (b : Byte) (s : State) : Res := runOp 0x97 (.zeroPageY b) (opIllegal 0x97) s

/-- 0x9B `TAS w,Y`, R210. -/
def execTasAby9B (w : Word) (s : State) : Res := runOp 0x9B (.absoluteY w) (opIllegal 0x9B) s

/-- 0x9C `SHY w,X`, R210. -/
def execShyAbx9C (w : Word) (s : State) : Res := runOp 0x9C (.absoluteX w) (opIllegal 0x9C) s

/-- 0x9E `SHX w,Y`, R210. -/
def execShxAby9E (w : Word) (s : State) : Res := runOp 0x9E (.absoluteY w) (opIllegal 0x9E) s

/-- 0x9F `AHX w,Y`, R210. -/
def execAhxAby9F (w : Word) (s : State) : Res := runOp 0x9F (.absoluteY w) (opIllegal 0x9F) s

/-- 0xA3 `LAX (b,X)`, R210. -/
def execLaxIzxA3 (b : Byte) (s : State) : Res := runOp 0xA3 (.indirectX b) (opIllegal 0xA3) s

/-- 0xA7 `LAX b`, R210. -/
def execLaxZpA7 (b : Byte) (s : State) : Res := runOp 0xA7 (.zeroPage b) (opIllegal 0xA7) s

/-- 0xAB `LAX #b`, R210. -/
def execLaxImmAB (b : Byte) (s : State) : Res := runOp 0xAB (.immediate b) (opIllegal 0xAB) s

/-- 0xAF `LAX w`, R210. -/
def execLaxAbsAF (w : Word) (s : State) : Res := runOp 0xAF (.absolute w) (opIllegal 0xAF) s

/-- 0xB2 `KIL`, R212. -/
def execKilB2 (s : State) : Res := runOp 0xB2 .implied (opIllegal 0xB2) s

/-- 0xB3 `LAX (b),Y`, R210. -/
def execLaxIzyB3 (b : Byte) (s : State) : Res := runOp 0xB3 (.indirectY b) (opIllegal 0xB3) s

/-- 0xB7 `LAX b,Y`, R210. -/
def execLaxZpyB7 (b : Byte) (s : State) : Res := runOp 0xB7 (.zeroPageY b) (opIllegal 0xB7) s

/-- 0xBB `LAS w,Y`, R210. -/
def execLasAbyBB (w : Word) (s : State) : Res := runOp 0xBB (.absoluteY w) (opIllegal 0xBB) s

/-- 0xBF `LAX w,Y`, R210. -/
def execLaxAbyBF (w : Word) (s : State) : Res := runOp 0xBF (.absoluteY w) (opIllegal 0xBF) s

/-- 0xC2 `NOP #b`, R213. -/
def execNopImmC2 (b : Byte) (s : State) : Res := runOp 0xC2 (.immediate b) (opIllegal 0xC2) s

/-- 0xC3 `DCP (b,X)`, R210. -/
def execDcpIzxC3 (b : Byte) (s : State) : Res := runOp 0xC3 (.indirectX b) (opIllegal 0xC3) s

/-- 0xC7 `DCP b`, R210. -/
def execDcpZpC7 (b : Byte) (s : State) : Res := runOp 0xC7 (.zeroPage b) (opIllegal 0xC7) s

/-- 0xCB `AXS #b`, R210. -/
def execAxsImmCB (b : Byte) (s : State) : Res := runOp 0xCB (.immediate b) (opIllegal 0xCB) s

/-- 0xCF `DCP w`, R210. -/
def execDcpAbsCF (w : Word) (s : State) : Res := runOp 0xCF (.absolute w) (opIllegal 0xCF) s

/-- 0xD2 `KIL`, R212. -/
def execKilD2 (s : State) : Res := runOp 0xD2 .implied (opIllegal 0xD2) s

/-- 0xD3 `DCP (b),Y`, R210. -/
def execDcpIzyD3 (b : Byte) (s : State) : Res := runOp 0xD3 (.indirectY b) (opIllegal 0xD3) s

/-- 0xD4 `NOP b,X`, R213. -/
def execNopZpxD4 (b : Byte) (s : State) : Res := runOp 0xD4 (.zeroPageX b) (opIllegal 0xD4) s

/-- 0xD7 `DCP b,X`, R210. -/
def execDcpZpxD7 (b : Byte) (s : State) : Res := runOp 0xD7 (.zeroPageX b) (opIllegal 0xD7) s

/-- 0xDA `NOP`, R213. -/
def execNopImpDA (s : State) : Res := runOp 0xDA .implied (opIllegal 0xDA) s

/-- 0xDB `DCP w,Y`, R210. -/
def execDcpAbyDB (w : Word) (s : State) : Res := runOp 0xDB (.absoluteY w) (opIllegal 0xDB) s

/-- 0xDC `NOP w,X`, R213. -/
def execNopAbxDC (w : Word) (s : State) : Res := runOp 0xDC (.absoluteX w) (opIllegal 0xDC) s

/-- 0xDF `DCP w,X`, R210. -/
def execDcpAbxDF (w : Word) (s : State) : Res := runOp 0xDF (.absoluteX w) (opIllegal 0xDF) s

/-- 0xE2 `NOP #b`, R213. -/
def execNopImmE2 (b : Byte) (s : State) : Res := runOp 0xE2 (.immediate b) (opIllegal 0xE2) s

/-- 0xE3 `ISC (b,X)`, R210. -/
def execIscIzxE3 (b : Byte) (s : State) : Res := runOp 0xE3 (.indirectX b) (opIllegal 0xE3) s

/-- 0xE7 `ISC b`, R210. -/
def execIscZpE7 (b : Byte) (s : State) : Res := runOp 0xE7 (.zeroPage b) (opIllegal 0xE7) s

/-- 0xEB `SBC #b`, R214. -/
def execSbcImmEB (b : Byte) (s : State) : Res := runOp 0xEB (.immediate b) (opIllegal 0xEB) s

/-- 0xEF `ISC w`, R210. -/
def execIscAbsEF (w : Word) (s : State) : Res := runOp 0xEF (.absolute w) (opIllegal 0xEF) s

/-- 0xF2 `KIL`, R212. -/
def execKilF2 (s : State) : Res := runOp 0xF2 .implied (opIllegal 0xF2) s

/-- 0xF3 `ISC (b),Y`, R210. -/
def execIscIzyF3 (b : Byte) (s : State) : Res := runOp 0xF3 (.indirectY b) (opIllegal 0xF3) s

/-- 0xF4 `NOP b,X`, R213. -/
def execNopZpxF4 (b : Byte) (s : State) : Res := runOp 0xF4 (.zeroPageX b) (opIllegal 0xF4) s

/-- 0xF7 `ISC b,X`, R210. -/
def execIscZpxF7 (b : Byte) (s : State) : Res := runOp 0xF7 (.zeroPageX b) (opIllegal 0xF7) s

/-- 0xFA `NOP`, R213. -/
def execNopImpFA (s : State) : Res := runOp 0xFA .implied (opIllegal 0xFA) s

/-- 0xFB `ISC w,Y`, R210. -/
def execIscAbyFB (w : Word) (s : State) : Res := runOp 0xFB (.absoluteY w) (opIllegal 0xFB) s

/-- 0xFC `NOP w,X`, R213. -/
def execNopAbxFC (w : Word) (s : State) : Res := runOp 0xFC (.absoluteX w) (opIllegal 0xFC) s

/-- 0xFF `ISC w,X`, R210. -/
def execIscAbxFF (w : Word) (s : State) : Res := runOp 0xFF (.absoluteX w) (opIllegal 0xFF) s

end Sys2Proof.Machine
end

