-- ==== Sys2Proof/Machine/IncDec.lean ====
section
/-! DEFINITION. Increment and decrement instructions (43_shift_incdec_compare.md R154 to R159): the handlers, and one meaning per row of
opcode_table.json. -/

namespace Sys2Proof.Machine

/-- INC (R154). -/
def opInc (c : Ctx) (s : State) : State :=
  let r := c.read s + 1
  setZN r (s.writeByte c.ea r)

/-- 0xE6 `INC b`, R154. -/
def execIncZp (b : Byte) (s : State) : Res := runOp 0xE6 (.zeroPage b) opInc s

/-- 0xEE `INC w`, R154. -/
def execIncAbs (w : Word) (s : State) : Res := runOp 0xEE (.absolute w) opInc s

/-- 0xF6 `INC b,X`, R154. -/
def execIncZpx (b : Byte) (s : State) : Res := runOp 0xF6 (.zeroPageX b) opInc s

/-- 0xFE `INC w,X`, R154. -/
def execIncAbx (w : Word) (s : State) : Res := runOp 0xFE (.absoluteX w) opInc s

/-- DEC (R155). -/
def opDec (c : Ctx) (s : State) : State :=
  let r := c.read s - 1
  setZN r (s.writeByte c.ea r)

/-- 0xC6 `DEC b`, R155. -/
def execDecZp (b : Byte) (s : State) : Res := runOp 0xC6 (.zeroPage b) opDec s

/-- 0xCE `DEC w`, R155. -/
def execDecAbs (w : Word) (s : State) : Res := runOp 0xCE (.absolute w) opDec s

/-- 0xD6 `DEC b,X`, R155. -/
def execDecZpx (b : Byte) (s : State) : Res := runOp 0xD6 (.zeroPageX b) opDec s

/-- 0xDE `DEC w,X`, R155. -/
def execDecAbx (w : Word) (s : State) : Res := runOp 0xDE (.absoluteX w) opDec s

/-- INX (R156). -/
def opInx (_ : Ctx) (s : State) : State :=
  let r := s.reg .X + 1
  setZN r (s.setReg .X r)

/-- 0xE8 `INX`, R156. -/
def execInx (s : State) : Res := runOp 0xE8 .implied opInx s

/-- INY (R157). -/
def opIny (_ : Ctx) (s : State) : State :=
  let r := s.reg .Y + 1
  setZN r (s.setReg .Y r)

/-- 0xC8 `INY`, R157. -/
def execIny (s : State) : Res := runOp 0xC8 .implied opIny s

/-- DEX (R158). -/
def opDex (_ : Ctx) (s : State) : State :=
  let r := s.reg .X - 1
  setZN r (s.setReg .X r)

/-- 0xCA `DEX`, R158. -/
def execDex (s : State) : Res := runOp 0xCA .implied opDex s

/-- DEY (R159). -/
def opDey (_ : Ctx) (s : State) : State :=
  let r := s.reg .Y - 1
  setZN r (s.setReg .Y r)

/-- 0x88 `DEY`, R159. -/
def execDey (s : State) : Res := runOp 0x88 .implied opDey s

end Sys2Proof.Machine
end

