-- ==== Sys2Proof/Machine/Jump.lean ====
section
/-! DEFINITION. Jump, call and return instructions (44_branch_jump.md R179 to R183): the handlers, and one meaning per row of
opcode_table.json. -/

namespace Sys2Proof.Machine

/-- JMP (R179). -/
def opJmp (c : Ctx) (s : State) : State :=
  s.setPc c.ea

/-- 0x4C `JMP w`, R179. -/
def execJmpAbs (w : Word) (s : State) : Res := runOp 0x4C (.absolute w) opJmp s

/-- 0x6C `JMP (w)`, R179. -/
def execJmpInd (w : Word) (s : State) : Res := runOp 0x6C (.indirect w) opJmp s

/-- JSR (R180). Pushes the address of its own last byte; `ea` was resolved before the push. -/
def opJsr (c : Ctx) (s : State) : State :=
  (push16 (c.pc0 + 2) s).setPc c.ea

/-- 0x20 `JSR w`, R180. -/
def execJsrAbs (w : Word) (s : State) : Res := runOp 0x20 (.absolute w) opJsr s

/-- RTS (R181). -/
def opRts (_ : Ctx) (s : State) : State :=
  let w := pull16 s
  w.2.setPc (w.1 + 1)

/-- 0x60 `RTS`, R181. -/
def execRts (s : State) : Res := runOp 0x60 .implied opRts s

/-- RTI (R182, D13). -/
def opRti (_ : Ctx) (s : State) : State :=
  returnFromInterrupt s

/-- 0x40 `RTI`, R182. -/
def execRti (s : State) : Res := runOp 0x40 .implied opRti s

end Sys2Proof.Machine
end

