-- ==== Sys2Proof/Machine/LoadStore.lean ====
section
/-! DEFINITION. Load and store instructions (41_load_store_transfer.md R110 to R115): the handlers, and one meaning per row of
opcode_table.json. -/

namespace Sys2Proof.Machine

/-- LDA (R110). -/
def opLda (c : Ctx) (s : State) : State :=
  let v := c.read s
  setZN v (s.setReg .A v)

/-- 0xA1 `LDA (b,X)`, R110. -/
def execLdaIzx (b : Byte) (s : State) : Res := runOp 0xA1 (.indirectX b) opLda s

/-- 0xA5 `LDA b`, R110. -/
def execLdaZp (b : Byte) (s : State) : Res := runOp 0xA5 (.zeroPage b) opLda s

/-- 0xA9 `LDA #b`, R110. -/
def execLdaImm (b : Byte) (s : State) : Res := runOp 0xA9 (.immediate b) opLda s

/-- 0xAD `LDA w`, R110. -/
def execLdaAbs (w : Word) (s : State) : Res := runOp 0xAD (.absolute w) opLda s

/-- 0xB1 `LDA (b),Y`, R110. -/
def execLdaIzy (b : Byte) (s : State) : Res := runOp 0xB1 (.indirectY b) opLda s

/-- 0xB5 `LDA b,X`, R110. -/
def execLdaZpx (b : Byte) (s : State) : Res := runOp 0xB5 (.zeroPageX b) opLda s

/-- 0xB9 `LDA w,Y`, R110. -/
def execLdaAby (w : Word) (s : State) : Res := runOp 0xB9 (.absoluteY w) opLda s

/-- 0xBD `LDA w,X`, R110. -/
def execLdaAbx (w : Word) (s : State) : Res := runOp 0xBD (.absoluteX w) opLda s

/-- LDX (R111). -/
def opLdx (c : Ctx) (s : State) : State :=
  let v := c.read s
  setZN v (s.setReg .X v)

/-- 0xA2 `LDX #b`, R111. -/
def execLdxImm (b : Byte) (s : State) : Res := runOp 0xA2 (.immediate b) opLdx s

/-- 0xA6 `LDX b`, R111. -/
def execLdxZp (b : Byte) (s : State) : Res := runOp 0xA6 (.zeroPage b) opLdx s

/-- 0xAE `LDX w`, R111. -/
def execLdxAbs (w : Word) (s : State) : Res := runOp 0xAE (.absolute w) opLdx s

/-- 0xB6 `LDX b,Y`, R111. -/
def execLdxZpy (b : Byte) (s : State) : Res := runOp 0xB6 (.zeroPageY b) opLdx s

/-- 0xBE `LDX w,Y`, R111. -/
def execLdxAby (w : Word) (s : State) : Res := runOp 0xBE (.absoluteY w) opLdx s

/-- LDY (R112). -/
def opLdy (c : Ctx) (s : State) : State :=
  let v := c.read s
  setZN v (s.setReg .Y v)

/-- 0xA0 `LDY #b`, R112. -/
def execLdyImm (b : Byte) (s : State) : Res := runOp 0xA0 (.immediate b) opLdy s

/-- 0xA4 `LDY b`, R112. -/
def execLdyZp (b : Byte) (s : State) : Res := runOp 0xA4 (.zeroPage b) opLdy s

/-- 0xAC `LDY w`, R112. -/
def execLdyAbs (w : Word) (s : State) : Res := runOp 0xAC (.absolute w) opLdy s

/-- 0xB4 `LDY b,X`, R112. -/
def execLdyZpx (b : Byte) (s : State) : Res := runOp 0xB4 (.zeroPageX b) opLdy s

/-- 0xBC `LDY w,X`, R112. -/
def execLdyAbx (w : Word) (s : State) : Res := runOp 0xBC (.absoluteX w) opLdy s

/-- STA (R113). No flag is written. -/
def opSta (c : Ctx) (s : State) : State :=
  s.writeByte c.ea (s.reg .A)

/-- 0x81 `STA (b,X)`, R113. -/
def execStaIzx (b : Byte) (s : State) : Res := runOp 0x81 (.indirectX b) opSta s

/-- 0x85 `STA b`, R113. -/
def execStaZp (b : Byte) (s : State) : Res := runOp 0x85 (.zeroPage b) opSta s

/-- 0x8D `STA w`, R113. -/
def execStaAbs (w : Word) (s : State) : Res := runOp 0x8D (.absolute w) opSta s

/-- 0x91 `STA (b),Y`, R113. -/
def execStaIzy (b : Byte) (s : State) : Res := runOp 0x91 (.indirectY b) opSta s

/-- 0x95 `STA b,X`, R113. -/
def execStaZpx (b : Byte) (s : State) : Res := runOp 0x95 (.zeroPageX b) opSta s

/-- 0x99 `STA w,Y`, R113. -/
def execStaAby (w : Word) (s : State) : Res := runOp 0x99 (.absoluteY w) opSta s

/-- 0x9D `STA w,X`, R113. -/
def execStaAbx (w : Word) (s : State) : Res := runOp 0x9D (.absoluteX w) opSta s

/-- STX (R114). No flag is written. -/
def opStx (c : Ctx) (s : State) : State :=
  s.writeByte c.ea (s.reg .X)

/-- 0x86 `STX b`, R114. -/
def execStxZp (b : Byte) (s : State) : Res := runOp 0x86 (.zeroPage b) opStx s

/-- 0x8E `STX w`, R114. -/
def execStxAbs (w : Word) (s : State) : Res := runOp 0x8E (.absolute w) opStx s

/-- 0x96 `STX b,Y`, R114. -/
def execStxZpy (b : Byte) (s : State) : Res := runOp 0x96 (.zeroPageY b) opStx s

/-- STY (R115). No flag is written. -/
def opSty (c : Ctx) (s : State) : State :=
  s.writeByte c.ea (s.reg .Y)

/-- 0x84 `STY b`, R115. -/
def execStyZp (b : Byte) (s : State) : Res := runOp 0x84 (.zeroPage b) opSty s

/-- 0x8C `STY w`, R115. -/
def execStyAbs (w : Word) (s : State) : Res := runOp 0x8C (.absolute w) opSty s

/-- 0x94 `STY b,X`, R115. -/
def execStyZpx (b : Byte) (s : State) : Res := runOp 0x94 (.zeroPageX b) opSty s

end Sys2Proof.Machine
end

