-- ==== Sys2Proof/Machine/Logic.lean ====
section
/-! DEFINITION. Logical instructions and the bit test (42_logical_arithmetic.md R130 to R133): the handlers, and one meaning per row of
opcode_table.json. -/

namespace Sys2Proof.Machine

/-- AND (R130). -/
def opAnd (c : Ctx) (s : State) : State :=
  let v := s.reg .A &&& c.read s
  setZN v (s.setReg .A v)

/-- 0x21 `AND (b,X)`, R130. -/
def execAndIzx (b : Byte) (s : State) : Res := runOp 0x21 (.indirectX b) opAnd s

/-- 0x25 `AND b`, R130. -/
def execAndZp (b : Byte) (s : State) : Res := runOp 0x25 (.zeroPage b) opAnd s

/-- 0x29 `AND #b`, R130. -/
def execAndImm (b : Byte) (s : State) : Res := runOp 0x29 (.immediate b) opAnd s

/-- 0x2D `AND w`, R130. -/
def execAndAbs (w : Word) (s : State) : Res := runOp 0x2D (.absolute w) opAnd s

/-- 0x31 `AND (b),Y`, R130. -/
def execAndIzy (b : Byte) (s : State) : Res := runOp 0x31 (.indirectY b) opAnd s

/-- 0x35 `AND b,X`, R130. -/
def execAndZpx (b : Byte) (s : State) : Res := runOp 0x35 (.zeroPageX b) opAnd s

/-- 0x39 `AND w,Y`, R130. -/
def execAndAby (w : Word) (s : State) : Res := runOp 0x39 (.absoluteY w) opAnd s

/-- 0x3D `AND w,X`, R130. -/
def execAndAbx (w : Word) (s : State) : Res := runOp 0x3D (.absoluteX w) opAnd s

/-- EOR (R131). -/
def opEor (c : Ctx) (s : State) : State :=
  let v := s.reg .A ^^^ c.read s
  setZN v (s.setReg .A v)

/-- 0x41 `EOR (b,X)`, R131. -/
def execEorIzx (b : Byte) (s : State) : Res := runOp 0x41 (.indirectX b) opEor s

/-- 0x45 `EOR b`, R131. -/
def execEorZp (b : Byte) (s : State) : Res := runOp 0x45 (.zeroPage b) opEor s

/-- 0x49 `EOR #b`, R131. -/
def execEorImm (b : Byte) (s : State) : Res := runOp 0x49 (.immediate b) opEor s

/-- 0x4D `EOR w`, R131. -/
def execEorAbs (w : Word) (s : State) : Res := runOp 0x4D (.absolute w) opEor s

/-- 0x51 `EOR (b),Y`, R131. -/
def execEorIzy (b : Byte) (s : State) : Res := runOp 0x51 (.indirectY b) opEor s

/-- 0x55 `EOR b,X`, R131. -/
def execEorZpx (b : Byte) (s : State) : Res := runOp 0x55 (.zeroPageX b) opEor s

/-- 0x59 `EOR w,Y`, R131. -/
def execEorAby (w : Word) (s : State) : Res := runOp 0x59 (.absoluteY w) opEor s

/-- 0x5D `EOR w,X`, R131. -/
def execEorAbx (w : Word) (s : State) : Res := runOp 0x5D (.absoluteX w) opEor s

/-- ORA (R132). -/
def opOra (c : Ctx) (s : State) : State :=
  let v := s.reg .A ||| c.read s
  setZN v (s.setReg .A v)

/-- 0x01 `ORA (b,X)`, R132. -/
def execOraIzx (b : Byte) (s : State) : Res := runOp 0x01 (.indirectX b) opOra s

/-- 0x05 `ORA b`, R132. -/
def execOraZp (b : Byte) (s : State) : Res := runOp 0x05 (.zeroPage b) opOra s

/-- 0x09 `ORA #b`, R132. -/
def execOraImm (b : Byte) (s : State) : Res := runOp 0x09 (.immediate b) opOra s

/-- 0x0D `ORA w`, R132. -/
def execOraAbs (w : Word) (s : State) : Res := runOp 0x0D (.absolute w) opOra s

/-- 0x11 `ORA (b),Y`, R132. -/
def execOraIzy (b : Byte) (s : State) : Res := runOp 0x11 (.indirectY b) opOra s

/-- 0x15 `ORA b,X`, R132. -/
def execOraZpx (b : Byte) (s : State) : Res := runOp 0x15 (.zeroPageX b) opOra s

/-- 0x19 `ORA w,Y`, R132. -/
def execOraAby (w : Word) (s : State) : Res := runOp 0x19 (.absoluteY w) opOra s

/-- 0x1D `ORA w,X`, R132. -/
def execOraAbx (w : Word) (s : State) : Res := runOp 0x1D (.absoluteX w) opOra s

/-- BIT (R133). Z from `A & m`, N and V from bits 7 and 6 of `m`. -/
def opBit (c : Ctx) (s : State) : State :=
  let m := c.read s
  setNVBits m (s.withFlag .Z (s.reg .A &&& m == 0))

/-- 0x24 `BIT b`, R133. -/
def execBitZp (b : Byte) (s : State) : Res := runOp 0x24 (.zeroPage b) opBit s

/-- 0x2C `BIT w`, R133. -/
def execBitAbs (w : Word) (s : State) : Res := runOp 0x2C (.absolute w) opBit s

end Sys2Proof.Machine
end

