-- ==== Sys2Proof/Machine/Shift.lean ====
section
/-! DEFINITION. Shift and rotate instructions (43_shift_incdec_compare.md R150 to R153): the handlers, and one meaning per row of
opcode_table.json. -/

namespace Sys2Proof.Machine

/-- The common frame of the shifts and rotates (R150): read the operand, write Carry, Z and N, write the result back. -/
def shiftWith (f : Byte → Bool → Byte × Bool) (c : Ctx) (s : State) : State :=
  let r := f (c.read s) (s.flag .C)
  c.writeBack r.1 (setZN r.1 (s.withFlag .C r.2))

/-- ASL (R150). -/
def opAsl (c : Ctx) (s : State) : State :=
  shiftWith aslBits c s

/-- 0x06 `ASL b`, R150. -/
def execAslZp (b : Byte) (s : State) : Res := runOp 0x06 (.zeroPage b) opAsl s

/-- 0x0A `ASL A`, R150. -/
def execAslAcc (s : State) : Res := runOp 0x0A .accumulator opAsl s

/-- 0x0E `ASL w`, R150. -/
def execAslAbs (w : Word) (s : State) : Res := runOp 0x0E (.absolute w) opAsl s

/-- 0x16 `ASL b,X`, R150. -/
def execAslZpx (b : Byte) (s : State) : Res := runOp 0x16 (.zeroPageX b) opAsl s

/-- 0x1E `ASL w,X`, R150. -/
def execAslAbx (w : Word) (s : State) : Res := runOp 0x1E (.absoluteX w) opAsl s

/-- LSR (R151). -/
def opLsr (c : Ctx) (s : State) : State :=
  shiftWith lsrBits c s

/-- 0x46 `LSR b`, R151. -/
def execLsrZp (b : Byte) (s : State) : Res := runOp 0x46 (.zeroPage b) opLsr s

/-- 0x4A `LSR A`, R151. -/
def execLsrAcc (s : State) : Res := runOp 0x4A .accumulator opLsr s

/-- 0x4E `LSR w`, R151. -/
def execLsrAbs (w : Word) (s : State) : Res := runOp 0x4E (.absolute w) opLsr s

/-- 0x56 `LSR b,X`, R151. -/
def execLsrZpx (b : Byte) (s : State) : Res := runOp 0x56 (.zeroPageX b) opLsr s

/-- 0x5E `LSR w,X`, R151. -/
def execLsrAbx (w : Word) (s : State) : Res := runOp 0x5E (.absoluteX w) opLsr s

/-- ROL (R152). -/
def opRol (c : Ctx) (s : State) : State :=
  shiftWith rolBits c s

/-- 0x26 `ROL b`, R152. -/
def execRolZp (b : Byte) (s : State) : Res := runOp 0x26 (.zeroPage b) opRol s

/-- 0x2A `ROL A`, R152. -/
def execRolAcc (s : State) : Res := runOp 0x2A .accumulator opRol s

/-- 0x2E `ROL w`, R152. -/
def execRolAbs (w : Word) (s : State) : Res := runOp 0x2E (.absolute w) opRol s

/-- 0x36 `ROL b,X`, R152. -/
def execRolZpx (b : Byte) (s : State) : Res := runOp 0x36 (.zeroPageX b) opRol s

/-- 0x3E `ROL w,X`, R152. -/
def execRolAbx (w : Word) (s : State) : Res := runOp 0x3E (.absoluteX w) opRol s

/-- ROR (R153). -/
def opRor (c : Ctx) (s : State) : State :=
  shiftWith rorBits c s

/-- 0x66 `ROR b`, R153. -/
def execRorZp (b : Byte) (s : State) : Res := runOp 0x66 (.zeroPage b) opRor s

/-- 0x6A `ROR A`, R153. -/
def execRorAcc (s : State) : Res := runOp 0x6A .accumulator opRor s

/-- 0x6E `ROR w`, R153. -/
def execRorAbs (w : Word) (s : State) : Res := runOp 0x6E (.absolute w) opRor s

/-- 0x76 `ROR b,X`, R153. -/
def execRorZpx (b : Byte) (s : State) : Res := runOp 0x76 (.zeroPageX b) opRor s

/-- 0x7E `ROR w,X`, R153. -/
def execRorAbx (w : Word) (s : State) : Res := runOp 0x7E (.absoluteX w) opRor s

end Sys2Proof.Machine
end

