-- ==== Sys2Proof/Machine/Stack.lean ====
section
/-! DEFINITION. Stack instructions (45_stack_system_flags.md R190 to R193): the handlers, and one meaning per row of
opcode_table.json. -/

namespace Sys2Proof.Machine

/-- PHA (R190). -/
def opPha (_ : Ctx) (s : State) : State :=
  push8 (s.reg .A) s

/-- 0x48 `PHA`, R190. -/
def execPha (s : State) : Res := runOp 0x48 .implied opPha s

/-- PHP (R191, D10). All eight bits as they stand. -/
def opPhp (_ : Ctx) (s : State) : State :=
  push8 s.p s

/-- 0x08 `PHP`, R191. -/
def execPhp (s : State) : Res := runOp 0x08 .implied opPhp s

/-- PLA (R192). -/
def opPla (_ : Ctx) (s : State) : State :=
  let v := pull8 s
  setZN v.1 (v.2.setReg .A v.1)

/-- 0x68 `PLA`, R192. -/
def execPla (s : State) : Res := runOp 0x68 .implied opPla s

/-- PLP (R193, D10). All eight bits, as pulled. -/
def opPlp (_ : Ctx) (s : State) : State :=
  let v := pull8 s
  v.2.setP v.1

/-- 0x28 `PLP`, R193. -/
def execPlp (s : State) : Res := runOp 0x28 .implied opPlp s

end Sys2Proof.Machine
end

