-- ==== Sys2Proof/Machine/System.lean ====
section
/-! DEFINITION. BRK and NOP (45_stack_system_flags.md R194, R195): the handlers, and one meaning per row of
opcode_table.json. -/

namespace Sys2Proof.Machine

/-- BRK (R194, D3, D4, D5). The software interrupt: it takes its exception through the vector it shares with IRQ. -/
def opBrk (c : Ctx) (s : State) : State :=
  let pushed := if s.cfg.brkBBeforePush then setFlag .B true s.p else s.p
  let live := setFlag .B true s.p
  enterVector (c.pc0 + s.cfg.brkPushOffset) pushed (if s.cfg.brkSetsI then setFlag .I true live else live) irqVector s

/-- 0x00 `BRK`, R194. -/
def execBrk (s : State) : Res := runOp 0x00 .implied opBrk s

/-- NOP (R195). No state change beyond the generic advance. -/
def opNop (_ : Ctx) (s : State) : State :=
  s

/-- 0xEA `NOP`, R195. -/
def execNop (s : State) : Res := runOp 0xEA .implied opNop s

end Sys2Proof.Machine
end

