-- ==== Sys2Proof/Machine/Transfer.lean ====
section
/-! DEFINITION. Register transfer instructions (41_load_store_transfer.md R116 to R121): the handlers, and one meaning per row of
opcode_table.json. -/

namespace Sys2Proof.Machine

/-- TAX (R116). -/
def opTax (_ : Ctx) (s : State) : State :=
  setZN (s.reg .A) (s.setReg .X (s.reg .A))

/-- 0xAA `TAX`, R116. -/
def execTax (s : State) : Res := runOp 0xAA .implied opTax s

/-- TAY (R117). -/
def opTay (_ : Ctx) (s : State) : State :=
  setZN (s.reg .A) (s.setReg .Y (s.reg .A))

/-- 0xA8 `TAY`, R117. -/
def execTay (s : State) : Res := runOp 0xA8 .implied opTay s

/-- TXA (R118). -/
def opTxa (_ : Ctx) (s : State) : State :=
  setZN (s.reg .X) (s.setReg .A (s.reg .X))

/-- 0x8A `TXA`, R118. -/
def execTxa (s : State) : Res := runOp 0x8A .implied opTxa s

/-- TYA (R119). -/
def opTya (_ : Ctx) (s : State) : State :=
  setZN (s.reg .Y) (s.setReg .A (s.reg .Y))

/-- 0x98 `TYA`, R119. -/
def execTya (s : State) : Res := runOp 0x98 .implied opTya s

/-- TSX (R120, D8). Z and N are written only under `Cfg.TSX_SETS_ZN`. -/
def opTsx (_ : Ctx) (s : State) : State :=
  let t := s.setReg .X (s.reg .S)
  if s.cfg.tsxSetsZN then setZN (s.reg .S) t else t

/-- 0xBA `TSX`, R120. -/
def execTsx (s : State) : Res := runOp 0xBA .implied opTsx s

/-- TXS (R121). No flag is written. -/
def opTxs (_ : Ctx) (s : State) : State :=
  s.setReg .S (s.reg .X)

/-- 0x9A `TXS`, R121. -/
def execTxs (s : State) : Res := runOp 0x9A .implied opTxs s

end Sys2Proof.Machine
end

