-- ==== Sys2Proof/Machine/Dispatch.lean ====
section
/-! DEFINITION. The dispatch: one arm per constructor of `Instr`, in their order (30_encoding.md R60, R64). -/

namespace Sys2Proof.Machine

def exec (i : Instr) (s : State) : Host.Outcome State Fault Refusal :=
  match i with
  | .oraIzx b => Sys2Proof.Machine.execOraIzx b s
  | .sloIzx03 b => Sys2Proof.Machine.execSloIzx03 b s
  | .nopZp04 b => Sys2Proof.Machine.execNopZp04 b s
  | .oraZp b => Sys2Proof.Machine.execOraZp b s
  | .aslZp b => Sys2Proof.Machine.execAslZp b s
  | .sloZp07 b => Sys2Proof.Machine.execSloZp07 b s
  | .oraImm b => Sys2Proof.Machine.execOraImm b s
  | .ancImm0B b => Sys2Proof.Machine.execAncImm0B b s
  | .nopAbs0C w => Sys2Proof.Machine.execNopAbs0C w s
  | .oraAbs w => Sys2Proof.Machine.execOraAbs w s
  | .aslAbs w => Sys2Proof.Machine.execAslAbs w s
  | .sloAbs0F w => Sys2Proof.Machine.execSloAbs0F w s
  | .bpl b => Sys2Proof.Machine.execBpl b s
  | .oraIzy b => Sys2Proof.Machine.execOraIzy b s
  | .sloIzy13 b => Sys2Proof.Machine.execSloIzy13 b s
  | .nopZpx14 b => Sys2Proof.Machine.execNopZpx14 b s
  | .oraZpx b => Sys2Proof.Machine.execOraZpx b s
  | .aslZpx b => Sys2Proof.Machine.execAslZpx b s
  | .sloZpx17 b => Sys2Proof.Machine.execSloZpx17 b s
  | .oraAby w => Sys2Proof.Machine.execOraAby w s
  | .sloAby1B w => Sys2Proof.Machine.execSloAby1B w s
  | .nopAbx1C w => Sys2Proof.Machine.execNopAbx1C w s
  | .oraAbx w => Sys2Proof.Machine.execOraAbx w s
  | .aslAbx w => Sys2Proof.Machine.execAslAbx w s
  | .sloAbx1F w => Sys2Proof.Machine.execSloAbx1F w s
  | .jsrAbs w => Sys2Proof.Machine.execJsrAbs w s
  | .andIzx b => Sys2Proof.Machine.execAndIzx b s
  | .rlaIzx23 b => Sys2Proof.Machine.execRlaIzx23 b s
  | .bitZp b => Sys2Proof.Machine.execBitZp b s
  | .andZp b => Sys2Proof.Machine.execAndZp b s
  | .rolZp b => Sys2Proof.Machine.execRolZp b s
  | .rlaZp27 b => Sys2Proof.Machine.execRlaZp27 b s
  | .andImm b => Sys2Proof.Machine.execAndImm b s
  | .ancImm2B b => Sys2Proof.Machine.execAncImm2B b s
  | .bitAbs w => Sys2Proof.Machine.execBitAbs w s
  | .andAbs w => Sys2Proof.Machine.execAndAbs w s
  | .rolAbs w => Sys2Proof.Machine.execRolAbs w s
  | .rlaAbs2F w => Sys2Proof.Machine.execRlaAbs2F w s
  | .bmi b => Sys2Proof.Machine.execBmi b s
  | .andIzy b => Sys2Proof.Machine.execAndIzy b s
  | .rlaIzy33 b => Sys2Proof.Machine.execRlaIzy33 b s
  | .nopZpx34 b => Sys2Proof.Machine.execNopZpx34 b s
  | .andZpx b => Sys2Proof.Machine.execAndZpx b s
  | .rolZpx b => Sys2Proof.Machine.execRolZpx b s
  | .rlaZpx37 b => Sys2Proof.Machine.execRlaZpx37 b s
  | .andAby w => Sys2Proof.Machine.execAndAby w s
  | .rlaAby3B w => Sys2Proof.Machine.execRlaAby3B w s
  | .nopAbx3C w => Sys2Proof.Machine.execNopAbx3C w s
  | .andAbx w => Sys2Proof.Machine.execAndAbx w s
  | .rolAbx w => Sys2Proof.Machine.execRolAbx w s
  | .rlaAbx3F w => Sys2Proof.Machine.execRlaAbx3F w s
  | .eorIzx b => Sys2Proof.Machine.execEorIzx b s
  | .sreIzx43 b => Sys2Proof.Machine.execSreIzx43 b s
  | .nopZp44 b => Sys2Proof.Machine.execNopZp44 b s
  | .eorZp b => Sys2Proof.Machine.execEorZp b s
  | .lsrZp b => Sys2Proof.Machine.execLsrZp b s
  | .sreZp47 b => Sys2Proof.Machine.execSreZp47 b s
  | .eorImm b => Sys2Proof.Machine.execEorImm b s
  | .alrImm4B b => Sys2Proof.Machine.execAlrImm4B b s
  | .jmpAbs w => Sys2Proof.Machine.execJmpAbs w s
  | .eorAbs w => Sys2Proof.Machine.execEorAbs w s
  | .lsrAbs w => Sys2Proof.Machine.execLsrAbs w s
  | .sreAbs4F w => Sys2Proof.Machine.execSreAbs4F w s
  | .bvc b => Sys2Proof.Machine.execBvc b s
  | .eorIzy b => Sys2Proof.Machine.execEorIzy b s
  | .sreIzy53 b => Sys2Proof.Machine.execSreIzy53 b s
  | .nopZpx54 b => Sys2Proof.Machine.execNopZpx54 b s
  | .eorZpx b => Sys2Proof.Machine.execEorZpx b s
  | .lsrZpx b => Sys2Proof.Machine.execLsrZpx b s
  | .sreZpx57 b => Sys2Proof.Machine.execSreZpx57 b s
  | .eorAby w => Sys2Proof.Machine.execEorAby w s
  | .sreAby5B w => Sys2Proof.Machine.execSreAby5B w s
  | .nopAbx5C w => Sys2Proof.Machine.execNopAbx5C w s
  | .eorAbx w => Sys2Proof.Machine.execEorAbx w s
  | .lsrAbx w => Sys2Proof.Machine.execLsrAbx w s
  | .sreAbx5F w => Sys2Proof.Machine.execSreAbx5F w s
  | .adcIzx b => Sys2Proof.Machine.execAdcIzx b s
  | .rraIzx63 b => Sys2Proof.Machine.execRraIzx63 b s
  | .nopZp64 b => Sys2Proof.Machine.execNopZp64 b s
  | .adcZp b => Sys2Proof.Machine.execAdcZp b s
  | .rorZp b => Sys2Proof.Machine.execRorZp b s
  | .rraZp67 b => Sys2Proof.Machine.execRraZp67 b s
  | .adcImm b => Sys2Proof.Machine.execAdcImm b s
  | .arrImm6B b => Sys2Proof.Machine.execArrImm6B b s
  | .jmpInd w => Sys2Proof.Machine.execJmpInd w s
  | .adcAbs w => Sys2Proof.Machine.execAdcAbs w s
  | .rorAbs w => Sys2Proof.Machine.execRorAbs w s
  | .rraAbs6F w => Sys2Proof.Machine.execRraAbs6F w s
  | .bvs b => Sys2Proof.Machine.execBvs b s
  | .adcIzy b => Sys2Proof.Machine.execAdcIzy b s
  | .rraIzy73 b => Sys2Proof.Machine.execRraIzy73 b s
  | .nopZpx74 b => Sys2Proof.Machine.execNopZpx74 b s
  | .adcZpx b => Sys2Proof.Machine.execAdcZpx b s
  | .rorZpx b => Sys2Proof.Machine.execRorZpx b s
  | .rraZpx77 b => Sys2Proof.Machine.execRraZpx77 b s
  | .adcAby w => Sys2Proof.Machine.execAdcAby w s
  | .rraAby7B w => Sys2Proof.Machine.execRraAby7B w s
  | .nopAbx7C w => Sys2Proof.Machine.execNopAbx7C w s
  | .adcAbx w => Sys2Proof.Machine.execAdcAbx w s
  | .rorAbx w => Sys2Proof.Machine.execRorAbx w s
  | .rraAbx7F w => Sys2Proof.Machine.execRraAbx7F w s
  | .nopImm80 b => Sys2Proof.Machine.execNopImm80 b s
  | .staIzx b => Sys2Proof.Machine.execStaIzx b s
  | .nopImm82 b => Sys2Proof.Machine.execNopImm82 b s
  | .saxIzx83 b => Sys2Proof.Machine.execSaxIzx83 b s
  | .styZp b => Sys2Proof.Machine.execStyZp b s
  | .staZp b => Sys2Proof.Machine.execStaZp b s
  | .stxZp b => Sys2Proof.Machine.execStxZp b s
  | .saxZp87 b => Sys2Proof.Machine.execSaxZp87 b s
  | .nopImm89 b => Sys2Proof.Machine.execNopImm89 b s
  | .xaaImm8B b => Sys2Proof.Machine.execXaaImm8B b s
  | .styAbs w => Sys2Proof.Machine.execStyAbs w s
  | .staAbs w => Sys2Proof.Machine.execStaAbs w s
  | .stxAbs w => Sys2Proof.Machine.execStxAbs w s
  | .saxAbs8F w => Sys2Proof.Machine.execSaxAbs8F w s
  | .bcc b => Sys2Proof.Machine.execBcc b s
  | .staIzy b => Sys2Proof.Machine.execStaIzy b s
  | .ahxIzy93 b => Sys2Proof.Machine.execAhxIzy93 b s
  | .styZpx b => Sys2Proof.Machine.execStyZpx b s
  | .staZpx b => Sys2Proof.Machine.execStaZpx b s
  | .stxZpy b => Sys2Proof.Machine.execStxZpy b s
  | .saxZpy97 b => Sys2Proof.Machine.execSaxZpy97 b s
  | .staAby w => Sys2Proof.Machine.execStaAby w s
  | .tasAby9B w => Sys2Proof.Machine.execTasAby9B w s
  | .shyAbx9C w => Sys2Proof.Machine.execShyAbx9C w s
  | .staAbx w => Sys2Proof.Machine.execStaAbx w s
  | .shxAby9E w => Sys2Proof.Machine.execShxAby9E w s
  | .ahxAby9F w => Sys2Proof.Machine.execAhxAby9F w s
  | .ldyImm b => Sys2Proof.Machine.execLdyImm b s
  | .ldaIzx b => Sys2Proof.Machine.execLdaIzx b s
  | .ldxImm b => Sys2Proof.Machine.execLdxImm b s
  | .laxIzxA3 b => Sys2Proof.Machine.execLaxIzxA3 b s
  | .ldyZp b => Sys2Proof.Machine.execLdyZp b s
  | .ldaZp b => Sys2Proof.Machine.execLdaZp b s
  | .ldxZp b => Sys2Proof.Machine.execLdxZp b s
  | .laxZpA7 b => Sys2Proof.Machine.execLaxZpA7 b s
  | .ldaImm b => Sys2Proof.Machine.execLdaImm b s
  | .laxImmAB b => Sys2Proof.Machine.execLaxImmAB b s
  | .ldyAbs w => Sys2Proof.Machine.execLdyAbs w s
  | .ldaAbs w => Sys2Proof.Machine.execLdaAbs w s
  | .ldxAbs w => Sys2Proof.Machine.execLdxAbs w s
  | .laxAbsAF w => Sys2Proof.Machine.execLaxAbsAF w s
  | .bcs b => Sys2Proof.Machine.execBcs b s
  | .ldaIzy b => Sys2Proof.Machine.execLdaIzy b s
  | .laxIzyB3 b => Sys2Proof.Machine.execLaxIzyB3 b s
  | .ldyZpx b => Sys2Proof.Machine.execLdyZpx b s
  | .ldaZpx b => Sys2Proof.Machine.execLdaZpx b s
  | .ldxZpy b => Sys2Proof.Machine.execLdxZpy b s
  | .laxZpyB7 b => Sys2Proof.Machine.execLaxZpyB7 b s
  | .ldaAby w => Sys2Proof.Machine.execLdaAby w s
  | .lasAbyBB w => Sys2Proof.Machine.execLasAbyBB w s
  | .ldyAbx w => Sys2Proof.Machine.execLdyAbx w s
  | .ldaAbx w => Sys2Proof.Machine.execLdaAbx w s
  | .ldxAby w => Sys2Proof.Machine.execLdxAby w s
  | .laxAbyBF w => Sys2Proof.Machine.execLaxAbyBF w s
  | .cpyImm b => Sys2Proof.Machine.execCpyImm b s
  | .cmpIzx b => Sys2Proof.Machine.execCmpIzx b s
  | .nopImmC2 b => Sys2Proof.Machine.execNopImmC2 b s
  | .dcpIzxC3 b => Sys2Proof.Machine.execDcpIzxC3 b s
  | .cpyZp b => Sys2Proof.Machine.execCpyZp b s
  | .cmpZp b => Sys2Proof.Machine.execCmpZp b s
  | .decZp b => Sys2Proof.Machine.execDecZp b s
  | .dcpZpC7 b => Sys2Proof.Machine.execDcpZpC7 b s
  | .cmpImm b => Sys2Proof.Machine.execCmpImm b s
  | .axsImmCB b => Sys2Proof.Machine.execAxsImmCB b s
  | .cpyAbs w => Sys2Proof.Machine.execCpyAbs w s
  | .cmpAbs w => Sys2Proof.Machine.execCmpAbs w s
  | .decAbs w => Sys2Proof.Machine.execDecAbs w s
  | .dcpAbsCF w => Sys2Proof.Machine.execDcpAbsCF w s
  | .bne b => Sys2Proof.Machine.execBne b s
  | .cmpIzy b => Sys2Proof.Machine.execCmpIzy b s
  | .dcpIzyD3 b => Sys2Proof.Machine.execDcpIzyD3 b s
  | .nopZpxD4 b => Sys2Proof.Machine.execNopZpxD4 b s
  | .cmpZpx b => Sys2Proof.Machine.execCmpZpx b s
  | .decZpx b => Sys2Proof.Machine.execDecZpx b s
  | .dcpZpxD7 b => Sys2Proof.Machine.execDcpZpxD7 b s
  | .cmpAby w => Sys2Proof.Machine.execCmpAby w s
  | .dcpAbyDB w => Sys2Proof.Machine.execDcpAbyDB w s
  | .nopAbxDC w => Sys2Proof.Machine.execNopAbxDC w s
  | .cmpAbx w => Sys2Proof.Machine.execCmpAbx w s
  | .decAbx w => Sys2Proof.Machine.execDecAbx w s
  | .dcpAbxDF w => Sys2Proof.Machine.execDcpAbxDF w s
  | .cpxImm b => Sys2Proof.Machine.execCpxImm b s
  | .sbcIzx b => Sys2Proof.Machine.execSbcIzx b s
  | .nopImmE2 b => Sys2Proof.Machine.execNopImmE2 b s
  | .iscIzxE3 b => Sys2Proof.Machine.execIscIzxE3 b s
  | .cpxZp b => Sys2Proof.Machine.execCpxZp b s
  | .sbcZp b => Sys2Proof.Machine.execSbcZp b s
  | .incZp b => Sys2Proof.Machine.execIncZp b s
  | .iscZpE7 b => Sys2Proof.Machine.execIscZpE7 b s
  | .sbcImm b => Sys2Proof.Machine.execSbcImm b s
  | .sbcImmEB b => Sys2Proof.Machine.execSbcImmEB b s
  | .cpxAbs w => Sys2Proof.Machine.execCpxAbs w s
  | .sbcAbs w => Sys2Proof.Machine.execSbcAbs w s
  | .incAbs w => Sys2Proof.Machine.execIncAbs w s
  | .iscAbsEF w => Sys2Proof.Machine.execIscAbsEF w s
  | .beq b => Sys2Proof.Machine.execBeq b s
  | .sbcIzy b => Sys2Proof.Machine.execSbcIzy b s
  | .iscIzyF3 b => Sys2Proof.Machine.execIscIzyF3 b s
  | .nopZpxF4 b => Sys2Proof.Machine.execNopZpxF4 b s
  | .sbcZpx b => Sys2Proof.Machine.execSbcZpx b s
  | .incZpx b => Sys2Proof.Machine.execIncZpx b s
  | .iscZpxF7 b => Sys2Proof.Machine.execIscZpxF7 b s
  | .sbcAby w => Sys2Proof.Machine.execSbcAby w s
  | .iscAbyFB w => Sys2Proof.Machine.execIscAbyFB w s
  | .nopAbxFC w => Sys2Proof.Machine.execNopAbxFC w s
  | .sbcAbx w => Sys2Proof.Machine.execSbcAbx w s
  | .incAbx w => Sys2Proof.Machine.execIncAbx w s
  | .iscAbxFF w => Sys2Proof.Machine.execIscAbxFF w s
  | .brk => Sys2Proof.Machine.execBrk s
  | .kil02 => Sys2Proof.Machine.execKil02 s
  | .php => Sys2Proof.Machine.execPhp s
  | .aslAcc => Sys2Proof.Machine.execAslAcc s
  | .kil12 => Sys2Proof.Machine.execKil12 s
  | .clc => Sys2Proof.Machine.execClc s
  | .nopImp1A => Sys2Proof.Machine.execNopImp1A s
  | .kil22 => Sys2Proof.Machine.execKil22 s
  | .plp => Sys2Proof.Machine.execPlp s
  | .rolAcc => Sys2Proof.Machine.execRolAcc s
  | .kil32 => Sys2Proof.Machine.execKil32 s
  | .sec => Sys2Proof.Machine.execSec s
  | .nopImp3A => Sys2Proof.Machine.execNopImp3A s
  | .rti => Sys2Proof.Machine.execRti s
  | .kil42 => Sys2Proof.Machine.execKil42 s
  | .pha => Sys2Proof.Machine.execPha s
  | .lsrAcc => Sys2Proof.Machine.execLsrAcc s
  | .kil52 => Sys2Proof.Machine.execKil52 s
  | .cli => Sys2Proof.Machine.execCli s
  | .nopImp5A => Sys2Proof.Machine.execNopImp5A s
  | .rts => Sys2Proof.Machine.execRts s
  | .kil62 => Sys2Proof.Machine.execKil62 s
  | .pla => Sys2Proof.Machine.execPla s
  | .rorAcc => Sys2Proof.Machine.execRorAcc s
  | .kil72 => Sys2Proof.Machine.execKil72 s
  | .sei => Sys2Proof.Machine.execSei s
  | .nopImp7A => Sys2Proof.Machine.execNopImp7A s
  | .dey => Sys2Proof.Machine.execDey s
  | .txa => Sys2Proof.Machine.execTxa s
  | .kil92 => Sys2Proof.Machine.execKil92 s
  | .tya => Sys2Proof.Machine.execTya s
  | .txs => Sys2Proof.Machine.execTxs s
  | .tay => Sys2Proof.Machine.execTay s
  | .tax => Sys2Proof.Machine.execTax s
  | .kilB2 => Sys2Proof.Machine.execKilB2 s
  | .clv => Sys2Proof.Machine.execClv s
  | .tsx => Sys2Proof.Machine.execTsx s
  | .iny => Sys2Proof.Machine.execIny s
  | .dex => Sys2Proof.Machine.execDex s
  | .kilD2 => Sys2Proof.Machine.execKilD2 s
  | .cld => Sys2Proof.Machine.execCld s
  | .nopImpDA => Sys2Proof.Machine.execNopImpDA s
  | .inx => Sys2Proof.Machine.execInx s
  | .nop => Sys2Proof.Machine.execNop s
  | .kilF2 => Sys2Proof.Machine.execKilF2 s
  | .sed => Sys2Proof.Machine.execSed s
  | .nopImpFA => Sys2Proof.Machine.execNopImpFA s

end Sys2Proof.Machine
end

