-- ==== Sys2Proof/Machine/Step.lean ====
section
/-! DEFINITION. One step (40_engine_addressing_flags.md R80): fetch and decode at `PC`, then execute. -/

namespace Sys2Proof.Machine

/-- `Step()` (R80). Resolving, `PC` and the cycles are `runOp`'s, in the meaning of the instruction. -/
def step (s : State) : Host.Outcome State Fault Refusal := exec (fetchInstr s) s

/-- The instruction whose table bits are `w`, stored where the next step fetches: at `PC` and the two addresses after it (log 18). -/
def State.withFetchWord (s : State) (nbits w : Nat) : State :=
  s.writeAll ([s.pc, s.pc + 1, s.pc + 2].zip (tableBytes nbits w))

end Sys2Proof.Machine
end

