-- ==== Sys2Proof/Machine/HostPort.lean ====
section
/-! DEFINITION. The host interface (70_reset_and_hazards.md R258 to R265): the transactions the surrounding system makes between steps.
`construct` is `State.construct`; `read_byte`, `write_byte`, `read_word`, `write_word` (R261) are `State.readByte`, `State.writeByte`,
`State.readWord` and `State.writeWord`. -/

namespace Sys2Proof.Machine

/-- Write bytes at rising addresses from `start` on. The callers below never let the range leave the address space. -/
def writeBytes (start : Word) (bytes : List Byte) (s : State) : State :=
  match bytes with
  | [] => s
  | v :: rest => writeBytes (start + 1) rest (s.writeByte start v)

/-- `load_program(bytes)` (R259, D16): refused from 65,536 bytes on; otherwise the bytes go to address 0 upward and nothing else
changes. -/
def loadProgram (bytes : List Byte) (s : State) : Bool × State :=
  if imageFits bytes then (true, writeBytes 0 bytes s) else (false, s)

/-- `read_range(start, len)` (R262): the empty sequence if the range leaves the address space. -/
def readRange (start : Word) (len : Nat) (s : State) : List Byte :=
  if start.toNat + len > 65536 then [] else (List.range len).map fun i => s.readByte (start + BitVec.ofNat 16 i)

/-- `write_range(bytes, start)` (R263): fails without mutation if the range leaves the address space. -/
def writeRange (bytes : List Byte) (start : Word) (s : State) : Bool × State :=
  if start.toNat + bytes.length > 65536 then (false, s) else (true, writeBytes start bytes s)

/-- The registers the host's port reads and writes (R264): `cycles` is not among them (D20). -/
structure Registers where
  a : Byte
  x : Byte
  y : Byte
  s : Byte
  p : Byte
  pc : Word
  deriving DecidableEq, Repr

/-- `get_registers()` (R264). -/
def getRegisters (s : State) : Registers := { a := s.a, x := s.x, y := s.y, s := s.sp, p := s.p, pc := s.pc }

/-- `set_registers(regs)` (R264): every bit as given, the Unused bit too. -/
def setRegisters (r : Registers) (s : State) : State :=
  { s with a := r.a, x := r.x, y := r.y, sp := r.s, p := r.p, pc := r.pc }

/-- `trigger_nmi()` (R265, 60_exceptions.md R226): never masked. -/
def triggerNmi (s : State) : State := interruptEntry nmiVector s

/-- `trigger_irq()` (R265, 60_exceptions.md R225, R227, D7): ignored while InterruptDisable is 1 if `Cfg.IRQ_MASKED_BY_I`; a masked
request is dropped, not remembered (R224, D15). -/
def triggerIrq (s : State) : State :=
  if s.flag .I ∧ s.cfg.irqMaskedByI then s else interruptEntry irqVector s

/-- `step(n)` (R260, 40_engine_addressing_flags.md R84): `n` steps with nothing between them, stopping where a step does not answer a
next state (none does so). -/
def stepN : Nat → State → Res
  | 0, s => .next s
  | n + 1, s =>
    match step s with
    | .next t => stepN n t
    | .fault r => .fault r
    | .refused r => .refused r

/-- What `step(n)` returns to the host (R260): the cumulative cycles. -/
def cumulativeCycles (s : State) : Nat := s.cycles

end Sys2Proof.Machine
end

