-- ==== Sys2Proof/Safety.lean ====
section
/-! DEFINITION. What counts as a safe run, and the terms claims are made in: the invariant of the state, and the frame predicates that
say what an instruction leaves unchanged. -/

namespace Sys2Proof.Machine

/-- The invariant of the state: memory is in canonical form, so that equal memories are equal data. Every register value is legal
(93_implementation_defined.md U10), so nothing else is asked. -/
def State.Inv (s : State) : Prop := Memory.wf s.mem = true

/-- A run of `n` steps is safe: it answers a state that meets the invariant. -/
def SafeRun (n : Nat) (s : State) : Prop := ∃ t, stepN n s = .next t ∧ t.Inv

/-- Every register outside `rs` is as before. -/
def KeepsRegs (rs : List Reg) (s t : State) : Prop := ∀ r, r ∉ rs → t.reg r = s.reg r

/-- Every flag outside `fs` is as before. -/
def KeepsFlags (fs : List Flag) (s t : State) : Prop := ∀ f, f ∉ fs → t.flag f = s.flag f

/-- Every byte of memory outside the addresses `as` reads as before. -/
def KeepsMem (as : List Word) (s t : State) : Prop := ∀ a, a ∉ as → t.readByte a = s.readByte a

/-- The frame: what stays from `s` to `t`, but for the named registers, flags and bytes; `PC` and `cycles` may change. The last clause
is about the model's own field for the configuration record (log 1, 00_scope.md R6), which nothing writes. -/
def Frame (rs : List Reg) (fs : List Flag) (as : List Word) (s t : State) : Prop :=
  KeepsRegs rs s t ∧ KeepsFlags fs s t ∧ KeepsMem as s t ∧ t.cfg = s.cfg

/-- The effective address of an instruction in a state (40_engine_addressing_flags.md R87). -/
def effAddr (i : Instr) (s : State) : Word := resolve i.operand s

/-- The operand byte of an instruction in a state: the byte its handler reads. -/
def operandOf (i : Instr) (s : State) : Byte := operandByte i.operand (effAddr i s) s

/-- The address of the instruction that follows in memory (R82). -/
def seqPc (i : Instr) (s : State) : Word := s.pc + BitVec.ofNat 16 i.entry.size

/-- The instruction answers a next state `t`, and `post t`. -/
def Completes (i : Instr) (s : State) (post : State → Prop) : Prop := ∃ t, exec i s = .next t ∧ post t

/-- Exactly these opcodes, each in this mode, have the handler (30_encoding.md R65). -/
def RowsOf (h : Handler) (rows : List (Byte × Mode)) : Prop :=
  ∀ op : Byte, (entryOf op).handler = h ↔ (op, (entryOf op).mode) ∈ rows

/-- Zero and Negative are those of the byte `v` (R100). -/
def HasZN (v : Byte) (t : State) : Prop := t.flag .Z = decide (v.toNat = 0) ∧ t.flag .N = decide (128 ≤ v.toNat)

/-- The three bytes at `PC` and after it, each address mod 65536 (R60). -/
def bytesAtPc (s : State) : List Byte := [s.readByte s.pc, s.readByte (s.pc + 1), s.readByte (s.pc + 2)]

end Sys2Proof.Machine
end

