-- ==== Sys2Proof/Certificates/Slice0/Obligations.lean ====
section
/-! DEFINITION. The statements for the provers, from the numbered rules of spec/. Every statement about an instruction is about every
form of it (`Completes`, `RowsOf`, `HasZN` and `Frame` stand in Safety.lean): `i.handler` is the handler that the dispatch table names for the instruction's opcode, and `RowsOf` says which opcodes and
modes have that handler, so that the encodings each rule lists are part of what is stated. `Completes i s post` says that the
instruction answers a next state, under no hypothesis on the state, and that `post` holds of it. -/

namespace Sys2Proof.Machine

/-- A row of R65: a mnemonic's handler and its cells `opcode mode (cycles, penalty)`. -/
structure LegalRow where
  mnemonic : String
  handler : Handler
  cells : List (Byte × Mode × Nat × Nat)

/-- R65, part 1. -/
def legalRows1 : List LegalRow := [
  ⟨"ADC", .adc, [(0x61, .indirectX, 6, 0), (0x65, .zeroPage, 3, 0), (0x69, .immediate, 2, 0), (0x6D, .absolute, 4, 0), (0x71, .indirectY, 5, 1), (0x75, .zeroPageX, 4, 0), (0x79, .absoluteY, 4, 1), (0x7D, .absoluteX, 4, 1)]⟩,
  ⟨"AND", .and, [(0x21, .indirectX, 6, 0), (0x25, .zeroPage, 3, 0), (0x29, .immediate, 2, 0), (0x2D, .absolute, 4, 0), (0x31, .indirectY, 5, 1), (0x35, .zeroPageX, 4, 0), (0x39, .absoluteY, 4, 1), (0x3D, .absoluteX, 4, 1)]⟩,
  ⟨"ASL", .asl, [(0x06, .zeroPage, 5, 0), (0x0A, .accumulator, 2, 0), (0x0E, .absolute, 6, 0), (0x16, .zeroPageX, 6, 0), (0x1E, .absoluteX, 7, 0)]⟩,
  ⟨"BCC", .bcc, [(0x90, .relative, 2, 1)]⟩,
  ⟨"BCS", .bcs, [(0xB0, .relative, 2, 1)]⟩,
  ⟨"BEQ", .beq, [(0xF0, .relative, 2, 1)]⟩,
  ⟨"BIT", .bit, [(0x24, .zeroPage, 3, 0), (0x2C, .absolute, 4, 0)]⟩,
  ⟨"BMI", .bmi, [(0x30, .relative, 2, 1)]⟩,
  ⟨"BNE", .bne, [(0xD0, .relative, 2, 1)]⟩,
  ⟨"BPL", .bpl, [(0x10, .relative, 2, 1)]⟩,
  ⟨"BRK", .brk, [(0x00, .implied, 7, 0)]⟩,
  ⟨"BVC", .bvc, [(0x50, .relative, 2, 1)]⟩,
  ⟨"BVS", .bvs, [(0x70, .relative, 2, 1)]⟩,
  ⟨"CLC", .clc, [(0x18, .implied, 2, 0)]⟩]

/-- R65, part 2. -/
def legalRows2 : List LegalRow := [
  ⟨"CLD", .cld, [(0xD8, .implied, 2, 0)]⟩,
  ⟨"CLI", .cli, [(0x58, .implied, 2, 0)]⟩,
  ⟨"CLV", .clv, [(0xB8, .implied, 2, 0)]⟩,
  ⟨"CMP", .cmp, [(0xC1, .indirectX, 6, 0), (0xC5, .zeroPage, 3, 0), (0xC9, .immediate, 2, 0), (0xCD, .absolute, 4, 0), (0xD1, .indirectY, 5, 1), (0xD5, .zeroPageX, 4, 0), (0xD9, .absoluteY, 4, 1), (0xDD, .absoluteX, 4, 1)]⟩,
  ⟨"CPX", .cpx, [(0xE0, .immediate, 2, 0), (0xE4, .zeroPage, 3, 0), (0xEC, .absolute, 4, 0)]⟩,
  ⟨"CPY", .cpy, [(0xC0, .immediate, 2, 0), (0xC4, .zeroPage, 3, 0), (0xCC, .absolute, 4, 0)]⟩,
  ⟨"DEC", .dec, [(0xC6, .zeroPage, 5, 0), (0xCE, .absolute, 6, 0), (0xD6, .zeroPageX, 6, 0), (0xDE, .absoluteX, 7, 0)]⟩,
  ⟨"DEX", .dex, [(0xCA, .implied, 2, 0)]⟩,
  ⟨"DEY", .dey, [(0x88, .implied, 2, 0)]⟩,
  ⟨"EOR", .eor, [(0x41, .indirectX, 6, 0), (0x45, .zeroPage, 3, 0), (0x49, .immediate, 2, 0), (0x4D, .absolute, 4, 0), (0x51, .indirectY, 5, 1), (0x55, .zeroPageX, 4, 0), (0x59, .absoluteY, 4, 1), (0x5D, .absoluteX, 4, 1)]⟩,
  ⟨"INC", .inc, [(0xE6, .zeroPage, 5, 0), (0xEE, .absolute, 6, 0), (0xF6, .zeroPageX, 6, 0), (0xFE, .absoluteX, 7, 0)]⟩,
  ⟨"INX", .inx, [(0xE8, .implied, 2, 0)]⟩,
  ⟨"INY", .iny, [(0xC8, .implied, 2, 0)]⟩,
  ⟨"JMP", .jmp, [(0x4C, .absolute, 3, 0), (0x6C, .indirect, 5, 0)]⟩]

/-- R65, part 3. -/
def legalRows3 : List LegalRow := [
  ⟨"JSR", .jsr, [(0x20, .absolute, 6, 0)]⟩,
  ⟨"LDA", .lda, [(0xA1, .indirectX, 6, 0), (0xA5, .zeroPage, 3, 0), (0xA9, .immediate, 2, 0), (0xAD, .absolute, 4, 0), (0xB1, .indirectY, 5, 1), (0xB5, .zeroPageX, 4, 0), (0xB9, .absoluteY, 4, 1), (0xBD, .absoluteX, 4, 1)]⟩,
  ⟨"LDX", .ldx, [(0xA2, .immediate, 2, 0), (0xA6, .zeroPage, 3, 0), (0xAE, .absolute, 4, 0), (0xB6, .zeroPageY, 4, 0), (0xBE, .absoluteY, 4, 1)]⟩,
  ⟨"LDY", .ldy, [(0xA0, .immediate, 2, 0), (0xA4, .zeroPage, 3, 0), (0xAC, .absolute, 4, 0), (0xB4, .zeroPageX, 4, 0), (0xBC, .absoluteX, 4, 1)]⟩,
  ⟨"LSR", .lsr, [(0x46, .zeroPage, 5, 0), (0x4A, .accumulator, 2, 0), (0x4E, .absolute, 6, 0), (0x56, .zeroPageX, 6, 0), (0x5E, .absoluteX, 7, 0)]⟩,
  ⟨"NOP", .nop, [(0xEA, .implied, 2, 0)]⟩,
  ⟨"ORA", .ora, [(0x01, .indirectX, 6, 0), (0x05, .zeroPage, 3, 0), (0x09, .immediate, 2, 0), (0x0D, .absolute, 4, 0), (0x11, .indirectY, 5, 1), (0x15, .zeroPageX, 4, 0), (0x19, .absoluteY, 4, 1), (0x1D, .absoluteX, 4, 1)]⟩,
  ⟨"PHA", .pha, [(0x48, .implied, 3, 0)]⟩,
  ⟨"PHP", .php, [(0x08, .implied, 3, 0)]⟩,
  ⟨"PLA", .pla, [(0x68, .implied, 4, 0)]⟩,
  ⟨"PLP", .plp, [(0x28, .implied, 4, 0)]⟩,
  ⟨"ROL", .rol, [(0x26, .zeroPage, 5, 0), (0x2A, .accumulator, 2, 0), (0x2E, .absolute, 6, 0), (0x36, .zeroPageX, 6, 0), (0x3E, .absoluteX, 7, 0)]⟩,
  ⟨"ROR", .ror, [(0x66, .zeroPage, 5, 0), (0x6A, .accumulator, 2, 0), (0x6E, .absolute, 6, 0), (0x76, .zeroPageX, 6, 0), (0x7E, .absoluteX, 7, 0)]⟩,
  ⟨"RTI", .rti, [(0x40, .implied, 6, 0)]⟩]

/-- R65, part 4. -/
def legalRows4 : List LegalRow := [
  ⟨"RTS", .rts, [(0x60, .implied, 6, 0)]⟩,
  ⟨"SBC", .sbc, [(0xE1, .indirectX, 6, 0), (0xE5, .zeroPage, 3, 0), (0xE9, .immediate, 2, 0), (0xED, .absolute, 4, 0), (0xF1, .indirectY, 5, 1), (0xF5, .zeroPageX, 4, 0), (0xF9, .absoluteY, 4, 1), (0xFD, .absoluteX, 4, 1)]⟩,
  ⟨"SEC", .sec, [(0x38, .implied, 2, 0)]⟩,
  ⟨"SED", .sed, [(0xF8, .implied, 2, 0)]⟩,
  ⟨"SEI", .sei, [(0x78, .implied, 2, 0)]⟩,
  ⟨"STA", .sta, [(0x81, .indirectX, 6, 0), (0x85, .zeroPage, 3, 0), (0x8D, .absolute, 4, 0), (0x91, .indirectY, 6, 0), (0x95, .zeroPageX, 4, 0), (0x99, .absoluteY, 5, 0), (0x9D, .absoluteX, 5, 0)]⟩,
  ⟨"STX", .stx, [(0x86, .zeroPage, 3, 0), (0x8E, .absolute, 4, 0), (0x96, .zeroPageY, 4, 0)]⟩,
  ⟨"STY", .sty, [(0x84, .zeroPage, 3, 0), (0x8C, .absolute, 4, 0), (0x94, .zeroPageX, 4, 0)]⟩,
  ⟨"TAX", .tax, [(0xAA, .implied, 2, 0)]⟩,
  ⟨"TAY", .tay, [(0xA8, .implied, 2, 0)]⟩,
  ⟨"TSX", .tsx, [(0xBA, .implied, 2, 0)]⟩,
  ⟨"TXA", .txa, [(0x8A, .implied, 2, 0)]⟩,
  ⟨"TXS", .txs, [(0x9A, .implied, 2, 0)]⟩,
  ⟨"TYA", .tya, [(0x98, .implied, 2, 0)]⟩]

/-- The table of R65. -/
def legalRows : List LegalRow := legalRows1 ++ legalRows2 ++ legalRows3 ++ legalRows4

/-- A row of R67: mnemonic, mode, size, cycles (`none` for `Cfg.KIL_CYCLES`), penalty, opcodes. -/
structure IllegalRow where
  mnemonic : String
  mode : Mode
  size : Nat
  cycles : Option Nat
  penalty : Nat
  opcodes : List Byte

/-- R67, part 1. -/
def illegalRows1 : List IllegalRow := [
  ⟨"AHX", .absoluteY, 3, some 5, 0, [0x9F]⟩,
  ⟨"AHX", .indirectY, 2, some 6, 0, [0x93]⟩,
  ⟨"ALR", .immediate, 2, some 2, 0, [0x4B]⟩,
  ⟨"ANC", .immediate, 2, some 2, 0, [0x0B, 0x2B]⟩,
  ⟨"ARR", .immediate, 2, some 2, 0, [0x6B]⟩,
  ⟨"AXS", .immediate, 2, some 2, 0, [0xCB]⟩,
  ⟨"DCP", .absolute, 3, some 6, 0, [0xCF]⟩,
  ⟨"DCP", .absoluteX, 3, some 7, 0, [0xDF]⟩,
  ⟨"DCP", .absoluteY, 3, some 7, 0, [0xDB]⟩,
  ⟨"DCP", .indirectX, 2, some 8, 0, [0xC3]⟩,
  ⟨"DCP", .indirectY, 2, some 8, 0, [0xD3]⟩,
  ⟨"DCP", .zeroPage, 2, some 5, 0, [0xC7]⟩,
  ⟨"DCP", .zeroPageX, 2, some 6, 0, [0xD7]⟩,
  ⟨"ISC", .absolute, 3, some 6, 0, [0xEF]⟩,
  ⟨"ISC", .absoluteX, 3, some 7, 0, [0xFF]⟩,
  ⟨"ISC", .absoluteY, 3, some 7, 0, [0xFB]⟩,
  ⟨"ISC", .indirectX, 2, some 8, 0, [0xE3]⟩,
  ⟨"ISC", .indirectY, 2, some 8, 0, [0xF3]⟩]

/-- R67, part 2. -/
def illegalRows2 : List IllegalRow := [
  ⟨"ISC", .zeroPage, 2, some 5, 0, [0xE7]⟩,
  ⟨"ISC", .zeroPageX, 2, some 6, 0, [0xF7]⟩,
  ⟨"KIL", .implied, 1, none, 0, [0x02, 0x12, 0x22, 0x32, 0x42, 0x52, 0x62, 0x72, 0x92, 0xB2, 0xD2, 0xF2]⟩,
  ⟨"LAS", .absoluteY, 3, some 4, 1, [0xBB]⟩,
  ⟨"LAX", .absolute, 3, some 4, 0, [0xAF]⟩,
  ⟨"LAX", .absoluteY, 3, some 4, 1, [0xBF]⟩,
  ⟨"LAX", .immediate, 2, some 2, 0, [0xAB]⟩,
  ⟨"LAX", .indirectX, 2, some 6, 0, [0xA3]⟩,
  ⟨"LAX", .indirectY, 2, some 5, 1, [0xB3]⟩,
  ⟨"LAX", .zeroPage, 2, some 3, 0, [0xA7]⟩,
  ⟨"LAX", .zeroPageY, 2, some 4, 0, [0xB7]⟩,
  ⟨"NOP", .absolute, 3, some 4, 0, [0x0C]⟩,
  ⟨"NOP", .absoluteX, 3, some 4, 1, [0x1C, 0x3C, 0x5C, 0x7C, 0xDC, 0xFC]⟩,
  ⟨"NOP", .immediate, 2, some 2, 0, [0x80, 0x82, 0x89, 0xC2, 0xE2]⟩,
  ⟨"NOP", .implied, 1, some 2, 0, [0x1A, 0x3A, 0x5A, 0x7A, 0xDA, 0xFA]⟩,
  ⟨"NOP", .zeroPage, 2, some 3, 0, [0x04, 0x44, 0x64]⟩,
  ⟨"NOP", .zeroPageX, 2, some 4, 0, [0x14, 0x34, 0x54, 0x74, 0xD4, 0xF4]⟩,
  ⟨"RLA", .absolute, 3, some 6, 0, [0x2F]⟩]

/-- R67, part 3. -/
def illegalRows3 : List IllegalRow := [
  ⟨"RLA", .absoluteX, 3, some 7, 0, [0x3F]⟩,
  ⟨"RLA", .absoluteY, 3, some 7, 0, [0x3B]⟩,
  ⟨"RLA", .indirectX, 2, some 8, 0, [0x23]⟩,
  ⟨"RLA", .indirectY, 2, some 8, 0, [0x33]⟩,
  ⟨"RLA", .zeroPage, 2, some 5, 0, [0x27]⟩,
  ⟨"RLA", .zeroPageX, 2, some 6, 0, [0x37]⟩,
  ⟨"RRA", .absolute, 3, some 6, 0, [0x6F]⟩,
  ⟨"RRA", .absoluteX, 3, some 7, 0, [0x7F]⟩,
  ⟨"RRA", .absoluteY, 3, some 7, 0, [0x7B]⟩,
  ⟨"RRA", .indirectX, 2, some 8, 0, [0x63]⟩,
  ⟨"RRA", .indirectY, 2, some 8, 0, [0x73]⟩,
  ⟨"RRA", .zeroPage, 2, some 5, 0, [0x67]⟩,
  ⟨"RRA", .zeroPageX, 2, some 6, 0, [0x77]⟩,
  ⟨"SAX", .absolute, 3, some 4, 0, [0x8F]⟩,
  ⟨"SAX", .indirectX, 2, some 6, 0, [0x83]⟩,
  ⟨"SAX", .zeroPage, 2, some 3, 0, [0x87]⟩,
  ⟨"SAX", .zeroPageY, 2, some 4, 0, [0x97]⟩,
  ⟨"SBC", .immediate, 2, some 2, 0, [0xEB]⟩]

/-- R67, part 4. -/
def illegalRows4 : List IllegalRow := [
  ⟨"SHX", .absoluteY, 3, some 5, 0, [0x9E]⟩,
  ⟨"SHY", .absoluteX, 3, some 5, 0, [0x9C]⟩,
  ⟨"SLO", .absolute, 3, some 6, 0, [0x0F]⟩,
  ⟨"SLO", .absoluteX, 3, some 7, 0, [0x1F]⟩,
  ⟨"SLO", .absoluteY, 3, some 7, 0, [0x1B]⟩,
  ⟨"SLO", .indirectX, 2, some 8, 0, [0x03]⟩,
  ⟨"SLO", .indirectY, 2, some 8, 0, [0x13]⟩,
  ⟨"SLO", .zeroPage, 2, some 5, 0, [0x07]⟩,
  ⟨"SLO", .zeroPageX, 2, some 6, 0, [0x17]⟩,
  ⟨"SRE", .absolute, 3, some 6, 0, [0x4F]⟩,
  ⟨"SRE", .absoluteX, 3, some 7, 0, [0x5F]⟩,
  ⟨"SRE", .absoluteY, 3, some 7, 0, [0x5B]⟩,
  ⟨"SRE", .indirectX, 2, some 8, 0, [0x43]⟩,
  ⟨"SRE", .indirectY, 2, some 8, 0, [0x53]⟩,
  ⟨"SRE", .zeroPage, 2, some 5, 0, [0x47]⟩,
  ⟨"SRE", .zeroPageX, 2, some 6, 0, [0x57]⟩,
  ⟨"TAS", .absoluteY, 3, some 5, 0, [0x9B]⟩,
  ⟨"XAA", .immediate, 2, some 2, 0, [0x8B]⟩]

/-- The table of R67. -/
def illegalRows : List IllegalRow := illegalRows1 ++ illegalRows2 ++ illegalRows3 ++ illegalRows4

/-- The flags that R26 lists for an instruction, as columns of its table: a flag not listed is left unchanged by it. PLP and RTI write
them all; an illegal opcode has no row in R26, and R210 leaves all of `P` open after it (log 2). -/
def flagsWritten (h : Handler) (cfg : Cfg) : List Flag :=
  match h with
  | .adc | .sbc => [.C, .Z, .V, .N]
  | .asl | .lsr | .rol | .ror | .cmp | .cpx | .cpy => [.C, .Z, .N]
  | .lda | .ldx | .ldy | .tax | .tay | .txa | .tya | .pla | .and | .eor | .ora | .inc | .dec | .inx | .iny | .dex | .dey => [.Z, .N]
  | .bit => [.Z, .V, .N]
  | .tsx => if cfg.tsxSetsZN then [.Z, .N] else []
  | .clc | .sec => [.C]
  | .cli | .sei => [.I]
  | .cld | .sed => [.D]
  | .clv => [.V]
  | .brk => if cfg.brkSetsI then [.I, .B] else [.B]
  | .plp | .rti | .illegal => [.C, .Z, .I, .D, .B, .U, .V, .N]
  | .sta | .stx | .sty | .txs | .bcc | .bcs | .beq | .bne | .bmi | .bpl | .bvc | .bvs | .jmp | .jsr | .rts | .pha | .php | .nop => []

/-- The addresses an instruction stores to (20_memory.md R49), in the state it starts from; for an illegal opcode, those of the
uninterpreted list of stores that is the model's form of its effect (log 2, 46_illegal_opcodes.md R210). -/
def storedTo (i : Instr) (s : State) : List Word :=
  match i.handler with
  | .sta | .stx | .sty | .inc | .dec => [effAddr i s]
  | .asl | .lsr | .rol | .ror => if i.operand = .accumulator then [] else [effAddr i s]
  | .pha | .php => [stackAddr (s.reg .S)]
  | .jsr => [stackAddr (s.reg .S), stackAddr (s.reg .S - 1)]
  | .brk => [stackAddr (s.reg .S), stackAddr (s.reg .S - 1), stackAddr (s.reg .S - 2)]
  | .illegal => (Config.illegalEffect i.opcode (effAddr i s) (s.reg .A) (s.reg .X) (s.reg .Y) (s.reg .S) s.p s.mem).stores.map
      Prod.fst
  | .lda | .ldx | .ldy | .tax | .tay | .txa | .tya | .tsx | .txs | .and | .eor | .ora | .bit | .adc | .sbc | .inx | .iny | .dex
  | .dey | .cmp | .cpx | .cpy | .bcc | .bcs | .beq | .bne | .bmi | .bpl | .bvc | .bvs | .jmp | .rts | .rti | .pla | .plp | .nop
  | .clc | .sec | .cli | .sei | .cld | .sed | .clv => []

end Sys2Proof.Machine

open Sys2Proof Sys2Proof.Machine

/-! ### Encoding and decoding -/

/-- For every well-formed instruction and every following bytes, decoding the encoding followed by those bytes gives the instruction, with every operand, and exactly those bytes left (30_encoding.md R60, 30_encoding.md R61, 30_encoding.md R62). -/
def Obligations.DecodeOfEncodeIsTheInstruction : Prop :=
  ∀ (i : Instr) (rest : List Byte), i.wf = true → decodeBytes (encode i ++ rest) = .ok (i, rest)

/-- Whenever a byte string decodes to an instruction with some bytes left, the string is the encoding of that instruction followed by those bytes, so each word has one meaning (30_encoding.md R60, 30_encoding.md R61, 30_encoding.md R64). -/
def Obligations.EncodeOfDecodeIsTheBytes : Prop :=
  ∀ (bs rest : List Byte) (i : Instr), decodeBytes bs = .ok (i, rest) → bs = encode i ++ rest

/-- For every opcode byte and any two bytes after it there is exactly one instruction with that opcode whose encoding the decoder reads there; what is left begins after the size column of the opcode alone, and the operand has the mode of the table entry (30_encoding.md R62, 30_encoding.md R64). -/
def Obligations.EveryOpcodeDecodesToExactlyOneEntry : Prop :=
  ∀ (op b1 b2 : Byte) (rest : List Byte),
    ∃! i : Instr, i.opcode = op ∧
      decodeBytes (op :: b1 :: b2 :: rest) = .ok (i, (b1 :: b2 :: rest).drop ((entryOf op).size - 1)) ∧
      i.operand.mode = (entryOf op).mode

/-- Every cell of the table of R65 is the entry of its opcode: mnemonic, mode, base cycles and page-cross penalty; the cells are 151 (R65). -/
def Obligations.TableHoldsTheLegalOpcodes : Prop :=
  (∀ row ∈ legalRows, ∀ c ∈ row.cells,
    entryOf c.1 = ⟨row.mnemonic, row.handler, c.2.1, c.2.1.size, some c.2.2.1, c.2.2.2⟩) ∧
  (legalRows.flatMap fun row => row.cells).length = 151

/-- Every row of the table of R67 is the entry of each of its opcodes: mnemonic, mode, size, cycles and penalty, with the handler of the illegal opcodes; the opcodes are 105, and no other opcode has that handler (R67). -/
def Obligations.TableHoldsTheIllegalOpcodes : Prop :=
  (∀ row ∈ illegalRows, ∀ op ∈ row.opcodes,
    entryOf op = ⟨row.mnemonic, .illegal, row.mode, row.size, row.cycles, row.penalty⟩) ∧
  (illegalRows.flatMap fun row => row.opcodes).length = 105 ∧
  ∀ op : Byte, (entryOf op).handler = .illegal → ∃ row ∈ illegalRows, op ∈ row.opcodes

/-- The byte strings that the spec gives for one instruction of each family (R69 and the worked examples) decode to that instruction with that operand (30_encoding.md R60, 30_encoding.md R65, 30_encoding.md R69). -/
def Obligations.WordsOfEachFamilyDecode : Prop :=
  decodeBytes [0xA9, 0x10] = .ok (.ldaImm 0x10, []) ∧ decodeBytes [0xB9, 0x34, 0x12] = .ok (.ldaAby 0x1234, []) ∧
  decodeBytes [0x8D, 0x00, 0x02] = .ok (.staAbs 0x0200, []) ∧ decodeBytes [0xAA] = .ok (.tax, []) ∧
  decodeBytes [0x24, 0x10] = .ok (.bitZp 0x10, []) ∧ decodeBytes [0x69, 0x10] = .ok (.adcImm 0x10, []) ∧
  decodeBytes [0x0A] = .ok (.aslAcc, []) ∧ decodeBytes [0xC6, 0x10] = .ok (.decZp 0x10, []) ∧
  decodeBytes [0xC9, 0x10] = .ok (.cmpImm 0x10, []) ∧ decodeBytes [0xD0, 0xFB] = .ok (.bne 0xFB, []) ∧
  decodeBytes [0x6C, 0x34, 0x12] = .ok (.jmpInd 0x1234, []) ∧ decodeBytes [0x48] = .ok (.pha, []) ∧
  decodeBytes [0x00] = .ok (.brk, []) ∧ decodeBytes [0x18] = .ok (.clc, []) ∧
  decodeBytes [0xEB, 0x01] = .ok (.sbcImmEB 0x01, []) ∧ decodeBytes [0xAD, 0x34] = .error (.missingOperand 0xAD)

/-! ### The step -/

/-- When the three bytes at PC decode to a well-formed instruction, the step is exactly the execution of that instruction in that state; resolving, PC and the cycles are part of the execution (40_engine_addressing_flags.md R80, 20_memory.md R55). -/
def Obligations.StepRunsTheDecodedInstruction : Prop :=
  ∀ (s : State) (i : Instr) (rest : List Byte), i.wf = true → decodeBytes (bytesAtPc s) = .ok (i, rest) → step s = exec i s

/-- From every state whatever, a step answers a next state; it is never a fault and never a refusal (R86). -/
def Obligations.EveryStepAnswersANextState : Prop :=
  ∀ s : State, (∃ t, step s = .next t) ∧ (∀ r, step s ≠ .fault r) ∧ (∀ r, step s ≠ .refused r)

/-- From every state that meets the invariant, step(n) for every n answers a state that meets the invariant again. The canonical form is the model's own (log 17); so is that an illegal opcode changes memory by a list of stores (log 2, DESIGN CHOICE) (40_engine_addressing_flags.md R84, 40_engine_addressing_flags.md R86, 10_state.md R32). -/
def Obligations.EveryRunCompletesSafely : Prop :=
  ∀ (n : Nat) (s : State), s.Inv → SafeRun n s

/-- From every state whose memory is canonical, a next state has canonical memory and the same configuration. The canonical form is the model's own (log 17); so is the field State.cfg that holds the configuration (log 1, DESIGN CHOICE), and that an illegal opcode changes memory by a list of stores (log 2, DESIGN CHOICE) (20_memory.md R41, 20_memory.md R43, 46_illegal_opcodes.md R210, 00_scope.md R6). -/
def Obligations.StepKeepsTheInvariant : Prop :=
  ∀ s t : State, s.Inv → step s = .next t → t.Inv ∧ t.cfg = s.cfg

/-- If two states meet the invariant and every address reads the same in both, their memories are equal, so nothing but the bytes is stored. The canonical form is the model's own (log 17, DEDUCED) (10_state.md R32, 20_memory.md R41). -/
def Obligations.CanonicalMemoriesThatReadAlikeAreEqual : Prop :=
  ∀ s t : State, s.Inv → t.Inv → (∀ a, s.readByte a = t.readByte a) → s.mem = t.mem

/-- The memory of the reset state is canonical, under every configuration. The canonical form is the model's own (log 17, DEDUCED) (10_state.md R35, 70_reset_and_hazards.md R250). -/
def Obligations.ResetMeetsTheInvariant : Prop :=
  State.reset.Inv ∧ ∀ cfg, (State.construct cfg).Inv

/-- Under every configuration, construction gives A = X = Y = S = 0x00, P = 0x20 with only the Unused bit set, PC = 0x0000, every byte of memory 0x00 and cycles = 0 (R35 marks that last value derived) (R35). -/
def Obligations.ResetValues : Prop :=
  ∀ cfg : Cfg, let s := State.construct cfg
    (∀ r, s.reg r = 0x00) ∧ s.p = 0x20 ∧ (∀ f, s.flag f = decide (f = .U)) ∧ s.pc = 0x0000 ∧
    (∀ a, s.readByte a = 0x00) ∧ s.cycles = 0 ∧ s.cfg = cfg

/-- Every instruction answers a next state whose cycle counter is the old one plus the base cost of its table entry, plus the entry's penalty if that is positive and the page of the end-of-step PC differs from the page of ea (R85). -/
def Obligations.CyclesAreAccounted : Prop :=
  ∀ (i : Instr) (s : State), Completes i s fun t =>
    t.cycles = s.cycles + baseCycles i.entry +
      (if 0 < i.entry.penalty ∧ t.pc.toNat / 256 ≠ (effAddr i s).toNat / 256 then i.entry.penalty else 0)

/-- Executing in a state that differs only in the cycle counter gives the same next state with the counter shifted by the same amount (10_state.md R33). -/
def Obligations.CyclesAreNeverRead : Prop :=
  ∀ (i : Instr) (s : State) (n : Nat),
    ∃ t, exec i s = .next t ∧ exec i { s with cycles := s.cycles + n } = .next { t with cycles := t.cycles + n }

/-- After STA Absolute to the address of the instruction that follows, the next step fetches an instruction whose opcode is the accumulator (20_memory.md R55). -/
def Obligations.StoredBytesAreFetchedNext : Prop :=
  ∀ (s : State), Completes (.staAbs (s.pc + 3)) s fun t => t.pc = s.pc + 3 ∧ (fetchInstr t).opcode = s.reg .A

/-! ### Memory and the stack -/

/-- A byte write is read back and changes no other byte and no register; a word read is the low byte at addr plus 256 times the byte at addr + 1 mod 65536; a word write puts the low byte at addr and the high byte at addr + 1 mod 65536 (R43, R44, R45). -/
def Obligations.WordAccessesAreLittleEndianAndWrap : Prop :=
  ∀ (s : State) (a : Word) (v : Byte) (w : Word),
    ((s.writeByte a v).readByte a = v ∧ Frame [] [] [a] s (s.writeByte a v) ∧ (s.writeByte a v).pc = s.pc) ∧
    (s.readWord a).toNat = (s.readByte a).toNat + 256 * (s.readByte (BitVec.ofNat 16 ((a.toNat + 1) % 65536))).toNat ∧
    ((s.writeWord a w).readByte a).toNat = w.toNat % 256 ∧
    ((s.writeWord a w).readByte (BitVec.ofNat 16 ((a.toNat + 1) % 65536))).toNat = w.toNat / 256 ∧
    Frame [] [] [a, a + 1] s (s.writeWord a w) ∧ (s.writeWord a w).pc = s.pc ∧ (s.writeWord a w).readWord a = w

/-- A push stores the byte at 0x0100 + S and leaves S - 1 mod 256; a pull leaves S + 1 mod 256 and gives the byte at 0x0100 + that; a word is pushed high byte first and pulled low byte first, each byte wrapping on its own; nothing else changes; pulling a word just pushed gives it back and restores S for every S (R31 marks that last clause derived). The order of the bytes is the spec's decision D11 (R28, R29, R30, R31). -/
def Obligations.PushesAndPullsStayInTheStackPage : Prop :=
  ∀ (s : State) (v : Byte) (w : Word),
    let at_ (n : Nat) : Word := BitVec.ofNat 16 (0x0100 + ((s.reg .S).toNat + n) % 256)
    ((push8 v s).readByte (at_ 0) = v ∧ ((push8 v s).reg .S).toNat = ((s.reg .S).toNat + 255) % 256 ∧
      Frame [.S] [] [at_ 0] s (push8 v s) ∧ (push8 v s).pc = s.pc) ∧
    ((pull8 s).1 = s.readByte (at_ 1) ∧ ((pull8 s).2.reg .S).toNat = ((s.reg .S).toNat + 1) % 256 ∧
      Frame [.S] [] [] s (pull8 s).2 ∧ (pull8 s).2.pc = s.pc) ∧
    (((push16 w s).readByte (at_ 0)).toNat = w.toNat / 256 ∧ ((push16 w s).readByte (at_ 255)).toNat = w.toNat % 256 ∧
      ((push16 w s).reg .S).toNat = ((s.reg .S).toNat + 254) % 256 ∧ Frame [.S] [] [at_ 0, at_ 255] s (push16 w s) ∧
      (push16 w s).pc = s.pc) ∧
    ((pull16 s).1.toNat = (s.readByte (at_ 2)).toNat * 256 + (s.readByte (at_ 1)).toNat ∧
      ((pull16 s).2.reg .S).toNat = ((s.reg .S).toNat + 2) % 256 ∧ Frame [.S] [] [] s (pull16 s).2 ∧
      (pull16 s).2.pc = s.pc) ∧
    ((pull16 (push16 w s)).1 = w ∧ (pull16 (push16 w s)).2.reg .S = s.reg .S)

/-! ### Addressing modes -/

/-- The effective address of Absolute is w, of AbsoluteX (w + X) mod 65536, of AbsoluteY (w + Y) mod 65536, of ZeroPage b, of ZeroPageX (b + X) mod 256 and of ZeroPageY (b + Y) mod 256 (R88, R89, R90, R97, R98, R99). -/
def Obligations.IndexedModesAddress : Prop :=
  ∀ (s : State) (w : Word) (b : Byte),
    resolve (.absolute w) s = w ∧
    (resolve (.absoluteX w) s).toNat = (w.toNat + (s.reg .X).toNat) % 65536 ∧
    (resolve (.absoluteY w) s).toNat = (w.toNat + (s.reg .Y).toNat) % 65536 ∧
    (resolve (.zeroPage b) s).toNat = b.toNat ∧
    (resolve (.zeroPageX b) s).toNat = (b.toNat + (s.reg .X).toNat) % 256 ∧
    (resolve (.zeroPageY b) s).toNat = (b.toNat + (s.reg .Y).toNat) % 256

/-- Indirect is the word at w, its high byte read without the carry into the page if JMP_IND_PAGE_WRAP; IndirectX is ZpPtr of (b + X) mod 256; IndirectY is ZpPtr(b) + Y mod 65536; ZpPtr reads its high byte at p + 1, or at (p + 1) mod 256 if ZP_PTR_WRAP. R95 marks the wrap of the IndirectY sum derived (R93, R94, R95). -/
def Obligations.PointerModesAddress : Prop :=
  ∀ (s : State) (b : Byte) (w : Word),
    let high (p : Nat) : Nat := if s.cfg.zpPtrWrap then (p + 1) % 256 else p + 1
    let at_ (a : Nat) : Nat := (s.readByte (BitVec.ofNat 16 a)).toNat
    let zp (p : Nat) : Nat := at_ p + 256 * at_ (high p)
    (resolve (.indirect w) s).toNat =
      at_ w.toNat + 256 * at_ (if s.cfg.jmpIndPageWrap then w.toNat / 256 * 256 + (w.toNat % 256 + 1) % 256 else (w.toNat + 1) % 65536) ∧
    (resolve (.indirectX b) s).toNat = zp ((b.toNat + (s.reg .X).toNat) % 256) ∧
    (resolve (.indirectY b) s).toNat = (zp b.toNat + (s.reg .Y).toNat) % 65536

/-- The effective address of Accumulator and of Implied is 0; of Immediate it is (pc0 + 1) mod 65536 and the operand is b, the byte there when the instruction stands at PC; of Relative it is (pc0 + b as a signed offset) mod 65536 (R91, R92, R96). -/
def Obligations.ImmediateRelativeAndImpliedAddress : Prop :=
  ∀ (s : State) (b : Byte),
    resolve .accumulator s = 0 ∧ resolve .implied s = 0 ∧
    (resolve (.immediate b) s).toNat = (s.pc.toNat + 1) % 65536 ∧
    (∀ i, fetchInstr s = i → i.operand = .immediate b → operandOf i s = b ∧ s.readByte (resolve (.immediate b) s) = b) ∧
    ((resolve (.relative b) s).toNat : Int) = ((s.pc.toNat : Int) + b.toInt) % 65536

/-! ### Loads, stores and transfers -/

/-- In every encoding, LDA, LDX and LDY complete with the register equal to the operand byte, Z and N those of that byte, PC at next, and every other register, flag and byte of memory unchanged (R110, R111, R112). -/
def Obligations.LoadsCopyAByteToTheRegister : Prop :=
  (RowsOf .lda [(0xA1, .indirectX), (0xA5, .zeroPage), (0xA9, .immediate), (0xAD, .absolute), (0xB1, .indirectY), (0xB5, .zeroPageX), (0xB9, .absoluteY), (0xBD, .absoluteX)] ∧
    RowsOf .ldx [(0xA2, .immediate), (0xA6, .zeroPage), (0xAE, .absolute), (0xB6, .zeroPageY), (0xBE, .absoluteY)] ∧
    RowsOf .ldy [(0xA0, .immediate), (0xA4, .zeroPage), (0xAC, .absolute), (0xB4, .zeroPageX), (0xBC, .absoluteX)]) ∧
  ∀ (i : Instr) (s : State) (r : Reg), (i.handler, r) ∈ [(Handler.lda, Reg.A), (.ldx, .X), (.ldy, .Y)] →
    Completes i s fun t => t.reg r = operandOf i s ∧ HasZN (operandOf i s) t ∧ t.pc = seqPc i s ∧ Frame [r] [.Z, .N] [] s t

/-- In every encoding, STA, STX and STY complete with the byte at ea equal to the register, PC at next, and every register, every flag and every other byte of memory unchanged (R113, R114, R115). -/
def Obligations.StoresWriteTheRegisterToMemory : Prop :=
  (RowsOf .sta [(0x81, .indirectX), (0x85, .zeroPage), (0x8D, .absolute), (0x91, .indirectY), (0x95, .zeroPageX), (0x99, .absoluteY), (0x9D, .absoluteX)] ∧
    RowsOf .stx [(0x86, .zeroPage), (0x8E, .absolute), (0x96, .zeroPageY)] ∧
    RowsOf .sty [(0x84, .zeroPage), (0x8C, .absolute), (0x94, .zeroPageX)]) ∧
  ∀ (i : Instr) (s : State) (r : Reg), (i.handler, r) ∈ [(Handler.sta, Reg.A), (.stx, .X), (.sty, .Y)] →
    Completes i s fun t => t.readByte (effAddr i s) = s.reg r ∧ t.pc = seqPc i s ∧ Frame [] [] [effAddr i s] s t

/-- TAX, TAY, TXA and TYA complete with the destination equal to the source register, Z and N those of that value, PC at next, and everything else unchanged (R116, R117, R118, R119). -/
def Obligations.TransfersCopyBetweenRegisters : Prop :=
  (RowsOf .tax [(0xAA, .implied)] ∧
    RowsOf .tay [(0xA8, .implied)] ∧
    RowsOf .txa [(0x8A, .implied)] ∧
    RowsOf .tya [(0x98, .implied)]) ∧
  ∀ (i : Instr) (s : State) (src dst : Reg),
    (i.handler, src, dst) ∈ [(Handler.tax, Reg.A, Reg.X), (.tay, .A, .Y), (.txa, .X, .A), (.tya, .Y, .A)] →
    Completes i s fun t => t.reg dst = s.reg src ∧ HasZN (s.reg src) t ∧ t.pc = seqPc i s ∧ Frame [dst] [.Z, .N] [] s t

/-- TSX completes with X = S and Z, N those of S if Cfg.TSX_SETS_ZN and unchanged otherwise; TXS completes with S = X and no flag changed; everything else is unchanged (R120, R121). -/
def Obligations.StackPointerTransfers : Prop :=
  (RowsOf .tsx [(0xBA, .implied)] ∧
    RowsOf .txs [(0x9A, .implied)]) ∧
  (∀ (i : Instr) (s : State), i.handler = .tsx → Completes i s fun t =>
    t.reg .X = s.reg .S ∧ (if s.cfg.tsxSetsZN then HasZN (s.reg .S) t else KeepsFlags [] s t) ∧ t.pc = seqPc i s ∧
    Frame [.X] [.Z, .N] [] s t) ∧
  (∀ (i : Instr) (s : State), i.handler = .txs → Completes i s fun t =>
    t.reg .S = s.reg .X ∧ t.pc = seqPc i s ∧ Frame [.S] [] [] s t)

/-! ### Logic and arithmetic -/

/-- In every encoding, AND, EOR and ORA complete with A the bitwise and, exclusive or, or of A and the operand byte, Z and N those of the result, PC at next, and everything else unchanged (R130, R131, R132). -/
def Obligations.LogicalOperationsOnTheAccumulator : Prop :=
  (RowsOf .and [(0x21, .indirectX), (0x25, .zeroPage), (0x29, .immediate), (0x2D, .absolute), (0x31, .indirectY), (0x35, .zeroPageX), (0x39, .absoluteY), (0x3D, .absoluteX)] ∧
    RowsOf .eor [(0x41, .indirectX), (0x45, .zeroPage), (0x49, .immediate), (0x4D, .absolute), (0x51, .indirectY), (0x55, .zeroPageX), (0x59, .absoluteY), (0x5D, .absoluteX)] ∧
    RowsOf .ora [(0x01, .indirectX), (0x05, .zeroPage), (0x09, .immediate), (0x0D, .absolute), (0x11, .indirectY), (0x15, .zeroPageX), (0x19, .absoluteY), (0x1D, .absoluteX)]) ∧
  ∀ (i : Instr) (s : State) (f : Bool → Bool → Bool),
    (i.handler, f) ∈ [(Handler.and, Bool.and), (.eor, Bool.xor), (.ora, Bool.or)] →
    Completes i s fun t => (∀ k < 8, (t.reg .A).getLsbD k = f ((s.reg .A).getLsbD k) ((operandOf i s).getLsbD k)) ∧
      HasZN (t.reg .A) t ∧ t.pc = seqPc i s ∧ Frame [.A] [.Z, .N] [] s t

/-- In every encoding, BIT completes with Z set iff A and the operand have no bit in common, N and V the operand's bits 7 and 6, PC at next, and everything else unchanged, A and C among it (R133). -/
def Obligations.BitTestReadsTheOperandBits : Prop :=
  (RowsOf .bit [(0x24, .zeroPage), (0x2C, .absolute)]) ∧
  ∀ (i : Instr) (s : State), i.handler = .bit → Completes i s fun t =>
    (t.flag .Z = true ↔ ∀ k < 8, ¬((s.reg .A).getLsbD k = true ∧ (operandOf i s).getLsbD k = true)) ∧
    t.flag .N = (operandOf i s).getLsbD 7 ∧ t.flag .V = (operandOf i s).getLsbD 6 ∧ t.pc = seqPc i s ∧
    Frame [] [.Z, .N, .V] [] s t

/-- In every encoding and whatever P.D holds, ADC completes with A = (A + m + C) mod 256, C set iff the sum exceeds 0xFF, V set iff A and m share a sign bit that the result does not have, Z and N of the result, PC at next, and everything else unchanged (R134). -/
def Obligations.AddWithCarryIsBinary : Prop :=
  (RowsOf .adc [(0x61, .indirectX), (0x65, .zeroPage), (0x69, .immediate), (0x6D, .absolute), (0x71, .indirectY), (0x75, .zeroPageX), (0x79, .absoluteY), (0x7D, .absoluteX)]) ∧
  ∀ (i : Instr) (s : State), i.handler = .adc →
    let sum := (s.reg .A).toNat + (operandOf i s).toNat + (s.flag .C).toNat
    Completes i s fun t => (t.reg .A).toNat = sum % 256 ∧ t.flag .C = decide (sum > 0xFF) ∧
      t.flag .V = decide ((s.reg .A).getLsbD 7 = (operandOf i s).getLsbD 7 ∧ (t.reg .A).getLsbD 7 ≠ (s.reg .A).getLsbD 7) ∧
      HasZN (t.reg .A) t ∧ t.pc = seqPc i s ∧ Frame [.A] [.C, .Z, .V, .N] [] s t

/-- In every encoding of the legal SBC, A = (A + (255 - m) + C) mod 256, C set iff the sum exceeds 0xFF, V set iff A and m differ in sign and the result's sign differs from A's, Z and N of the result, PC at next, and everything else unchanged (R135). -/
def Obligations.SubtractWithBorrowAddsTheComplement : Prop :=
  (RowsOf .sbc [(0xE1, .indirectX), (0xE5, .zeroPage), (0xE9, .immediate), (0xED, .absolute), (0xF1, .indirectY), (0xF5, .zeroPageX), (0xF9, .absoluteY), (0xFD, .absoluteX)]) ∧
  ∀ (i : Instr) (s : State), i.handler = .sbc →
    let sum := (s.reg .A).toNat + (255 - (operandOf i s).toNat) + (s.flag .C).toNat
    Completes i s fun t => (t.reg .A).toNat = sum % 256 ∧ t.flag .C = decide (sum > 0xFF) ∧
      t.flag .V = decide ((s.reg .A).getLsbD 7 ≠ (operandOf i s).getLsbD 7 ∧ (t.reg .A).getLsbD 7 ≠ (s.reg .A).getLsbD 7) ∧
      HasZN (t.reg .A) t ∧ t.pc = seqPc i s ∧ Frame [.A] [.C, .Z, .V, .N] [] s t

/-- ADC sets V iff the signed sum of A, the operand and the carry leaves -128..127; SBC sets V iff A minus the operand minus the borrow, signed, leaves it, and sets C iff the unsigned difference is not negative (R135 marks the SBC form derived) (42_logical_arithmetic.md R135, 42_logical_arithmetic.md R136). -/
def Obligations.OverflowIsTheSignedRange : Prop :=
  (∀ (i : Instr) (s : State), i.handler = .adc →
    let sum : Int := (s.reg .A).toInt + (operandOf i s).toInt + (s.flag .C).toNat
    Completes i s fun t => t.flag .V = decide (sum < -128 ∨ 127 < sum)) ∧
  (∀ (i : Instr) (s : State), i.handler = .sbc →
    let diff : Int := (s.reg .A).toInt - (operandOf i s).toInt - (1 - (s.flag .C).toNat)
    let d : Int := (s.reg .A).toNat - (operandOf i s).toNat - (1 - (s.flag .C).toNat)
    Completes i s fun t => t.flag .V = decide (diff < -128 ∨ 127 < diff) ∧ t.flag .C = decide (0 ≤ d) ∧
      ((t.reg .A).toNat : Int) = d % 256)

/-- For every legal instruction but PHP, BRK, PLP, RTI, SED and CLD, executing with the Decimal flag set to any value gives the same next state with the flag set to that value. SED and CLD, which write the flag, are stated by FlagInstructionsWriteOneBit (42_logical_arithmetic.md R134, 10_state.md R24, 92_eei_decisions.md D9). -/
def Obligations.DecimalFlagIsNeverRead : Prop :=
  ∀ (i : Instr) (s : State) (v : Bool),
    i.handler ∉ [.php, .brk, .plp, .rti, .sed, .cld, .illegal] →
    ∃ t, exec i s = .next t ∧ exec i (s.withFlag .D v) = .next (t.withFlag .D v)

/-! ### Shifts, increments and compares -/

/-- In every encoding the result is 2v mod 256, v/2, (2v + C) mod 256 or v/2 + 128C, Carry is the bit shifted out, Z and N are those of the result, which goes to A in Accumulator mode and otherwise to the byte at ea; PC is next, and everything else is unchanged, V among it (R150, R151, R152, R153). -/
def Obligations.ShiftsAndRotatesMoveOneBit : Prop :=
  (RowsOf .asl [(0x06, .zeroPage), (0x0A, .accumulator), (0x0E, .absolute), (0x16, .zeroPageX), (0x1E, .absoluteX)] ∧
    RowsOf .lsr [(0x46, .zeroPage), (0x4A, .accumulator), (0x4E, .absolute), (0x56, .zeroPageX), (0x5E, .absoluteX)] ∧
    RowsOf .rol [(0x26, .zeroPage), (0x2A, .accumulator), (0x2E, .absolute), (0x36, .zeroPageX), (0x3E, .absoluteX)] ∧
    RowsOf .ror [(0x66, .zeroPage), (0x6A, .accumulator), (0x6E, .absolute), (0x76, .zeroPageX), (0x7E, .absoluteX)]) ∧
  ∀ (i : Instr) (s : State) (f : Nat → Nat → Nat) (out : Nat),
    (i.handler, f, out) ∈ [(Handler.asl, fun v _ => 2 * v % 256, 7), (.lsr, fun v _ => v / 2, 0),
      (.rol, fun v c => (2 * v + c) % 256, 7), (.ror, fun v c => v / 2 + 128 * c, 0)] →
    let r := BitVec.ofNat 8 (f (operandOf i s).toNat (s.flag .C).toNat)
    Completes i s fun t => t.flag .C = (operandOf i s).getLsbD out ∧ HasZN r t ∧ t.pc = seqPc i s ∧
      (i.operand = .accumulator → operandOf i s = s.reg .A ∧ t.reg .A = r ∧ Frame [.A] [.C, .Z, .N] [] s t) ∧
      (i.operand ≠ .accumulator → operandOf i s = s.readByte (effAddr i s) ∧ t.readByte (effAddr i s) = r ∧
        Frame [] [.C, .Z, .N] [effAddr i s] s t)

/-- In every encoding, INC and DEC complete with the byte at ea incremented or decremented mod 256, Z and N of the result, PC at next, and everything else unchanged, C and V among it (R154, R155). -/
def Obligations.MemoryIncrementAndDecrementWrap : Prop :=
  (RowsOf .inc [(0xE6, .zeroPage), (0xEE, .absolute), (0xF6, .zeroPageX), (0xFE, .absoluteX)] ∧
    RowsOf .dec [(0xC6, .zeroPage), (0xCE, .absolute), (0xD6, .zeroPageX), (0xDE, .absoluteX)]) ∧
  ∀ (i : Instr) (s : State) (d : Nat), (i.handler, d) ∈ [(Handler.inc, 1), (.dec, 255)] →
    let r := BitVec.ofNat 8 ((s.readByte (effAddr i s)).toNat + d)
    Completes i s fun t => t.readByte (effAddr i s) = r ∧ HasZN r t ∧ t.pc = seqPc i s ∧
      Frame [] [.Z, .N] [effAddr i s] s t

/-- INX, INY, DEX and DEY complete with the index register incremented or decremented mod 256, Z and N of the result, PC at next, and everything else unchanged (R156, R157, R158, R159). -/
def Obligations.IndexIncrementAndDecrementWrap : Prop :=
  (RowsOf .inx [(0xE8, .implied)] ∧
    RowsOf .iny [(0xC8, .implied)] ∧
    RowsOf .dex [(0xCA, .implied)] ∧
    RowsOf .dey [(0x88, .implied)]) ∧
  ∀ (i : Instr) (s : State) (r : Reg) (d : Nat),
    (i.handler, r, d) ∈ [(Handler.inx, Reg.X, 1), (.iny, .Y, 1), (.dex, .X, 255), (.dey, .Y, 255)] →
    Completes i s fun t => (t.reg r).toNat = ((s.reg r).toNat + d) % 256 ∧ HasZN (t.reg r) t ∧ t.pc = seqPc i s ∧
      Frame [r] [.Z, .N] [] s t

/-- In every encoding, CMP, CPX and CPY complete with C set iff the register is at least the operand, unsigned, Z and N those of the difference mod 256, so Z iff they are equal, PC at next, and everything else unchanged, V and every register among it (R160, R161, R162). -/
def Obligations.ComparesSetCarryZeroAndNegative : Prop :=
  (RowsOf .cmp [(0xC1, .indirectX), (0xC5, .zeroPage), (0xC9, .immediate), (0xCD, .absolute), (0xD1, .indirectY), (0xD5, .zeroPageX), (0xD9, .absoluteY), (0xDD, .absoluteX)] ∧
    RowsOf .cpx [(0xE0, .immediate), (0xE4, .zeroPage), (0xEC, .absolute)] ∧
    RowsOf .cpy [(0xC0, .immediate), (0xC4, .zeroPage), (0xCC, .absolute)]) ∧
  ∀ (i : Instr) (s : State) (r : Reg), (i.handler, r) ∈ [(Handler.cmp, Reg.A), (.cpx, .X), (.cpy, .Y)] →
    Completes i s fun t => t.flag .C = decide ((operandOf i s).toNat ≤ (s.reg r).toNat) ∧
      HasZN (BitVec.ofNat 8 ((s.reg r).toNat + 256 - (operandOf i s).toNat)) t ∧
      t.flag .Z = decide (s.reg r = operandOf i s) ∧ t.pc = seqPc i s ∧ Frame [] [.C, .Z, .N] [] s t

/-! ### Branches, jumps, calls and returns -/

/-- Each of the eight branches completes with PC = (pc0 + 2 + signed offset) mod 65536 when the flag it tests has the value it tests for, and with (pc0 + 2) mod 65536 otherwise; no register, flag or byte of memory changes (R170, R171, R172, R173, R174, R175, R176, R177, R178). -/
def Obligations.BranchesTestOneFlag : Prop :=
  (RowsOf .bcc [(0x90, .relative)] ∧
    RowsOf .bcs [(0xB0, .relative)] ∧
    RowsOf .beq [(0xF0, .relative)] ∧
    RowsOf .bne [(0xD0, .relative)] ∧
    RowsOf .bmi [(0x30, .relative)] ∧
    RowsOf .bpl [(0x10, .relative)] ∧
    RowsOf .bvc [(0x50, .relative)] ∧
    RowsOf .bvs [(0x70, .relative)]) ∧
  ∀ (i : Instr) (s : State) (f : Flag) (v : Bool),
    (i.handler, f, v) ∈ [(Handler.bcc, Flag.C, false), (.bcs, .C, true), (.beq, .Z, true), (.bne, .Z, false), (.bmi, .N, true),
      (.bpl, .N, false), (.bvc, .V, false), (.bvs, .V, true)] →
    ∃ b : Byte, i.operand = .relative b ∧ Completes i s fun t =>
      (t.pc.toNat : Int) = (if s.flag f = v then (s.pc.toNat : Int) + 2 + b.toInt else (s.pc.toNat : Int) + 2) % 65536 ∧
      Frame [] [] [] s t

/-- In both encodings JMP completes with PC = ea (w for 0x4C, the word the pointer w points at for 0x6C), the stack untouched, and every register, flag and byte of memory unchanged (R179). -/
def Obligations.JumpSetsPcToTheEffectiveAddress : Prop :=
  (RowsOf .jmp [(0x4C, .absolute), (0x6C, .indirect)]) ∧
  ∀ (i : Instr) (s : State), i.handler = .jmp → Completes i s fun t => t.pc = effAddr i s ∧ Frame [] [] [] s t

/-- JSR completes with PC = w, S = S - 2 mod 256, the high byte of pc0 + 2 at 0x0100 + S and its low byte at 0x0100 + (S - 1 mod 256), no flag written, and every other register and byte of memory unchanged (R180). -/
def Obligations.CallPushesTheReturnAddress : Prop :=
  (RowsOf .jsr [(0x20, .absolute)]) ∧
  ∀ (w : Word) (s : State), Completes (.jsrAbs w) s fun t =>
    t.pc = w ∧ t.reg .S = s.reg .S - 2 ∧ (t.readByte (stackAddr (s.reg .S))).toNat = (s.pc.toNat + 2) % 65536 / 256 ∧
    (t.readByte (stackAddr (s.reg .S - 1))).toNat = (s.pc.toNat + 2) % 256 ∧
    Frame [.S] [] [stackAddr (s.reg .S), stackAddr (s.reg .S - 1)] s t

/-- RTS completes with PC = (pulled word + 1) mod 65536, the word being the bytes at 0x0100 + S + 1 (low) and + 2 (high), each index mod 256, S = S + 2 mod 256, and everything else unchanged (R181). -/
def Obligations.ReturnPullsTheAddressAndAddsOne : Prop :=
  (RowsOf .rts [(0x60, .implied)]) ∧
  ∀ (s : State), Completes .rts s fun t =>
    t.pc.toNat = ((s.readByte (stackAddr (s.reg .S + 1))).toNat + 256 * (s.readByte (stackAddr (s.reg .S + 2))).toNat + 1) % 65536 ∧
    t.reg .S = s.reg .S + 2 ∧ Frame [.S] [] [] s t

/-- For every state and target, executing JSR and then RTS ends with PC = pc0 + 3 mod 65536, S as before, every other register and flag as before, and no byte of memory changed but the two of the stack (44_branch_jump.md R180, 44_branch_jump.md R181, 44_branch_jump.md R183). -/
def Obligations.CallThenReturnResumesAfterTheCall : Prop :=
  ∀ (w : Word) (s : State), ∃ t u, exec (.jsrAbs w) s = .next t ∧ exec .rts t = .next u ∧
    u.pc = s.pc + 3 ∧ Frame [] [] [stackAddr (s.reg .S), stackAddr (s.reg .S - 1)] s u

/-- RTI completes with P the byte at 0x0100 + S + 1, all eight bits, PC the word at + 2 (low) and + 3 (high), each index mod 256, S = S + 3 mod 256, and A, X, Y and all memory unchanged (R182). -/
def Obligations.ReturnFromInterruptPullsFlagsThenPc : Prop :=
  (RowsOf .rti [(0x40, .implied)]) ∧
  ∀ (s : State), Completes .rti s fun t =>
    t.p = s.readByte (stackAddr (s.reg .S + 1)) ∧
    t.pc.toNat = (s.readByte (stackAddr (s.reg .S + 2))).toNat + 256 * (s.readByte (stackAddr (s.reg .S + 3))).toNat ∧
    t.reg .S = s.reg .S + 3 ∧ Frame [.S] [.C, .Z, .I, .D, .B, .U, .V, .N] [] s t

/-! ### Stack, system and flag instructions -/

/-- PHA and PHP complete with the byte at 0x0100 + S equal to A, respectively to P with no bit forced, S = S - 1 mod 256, PC at next, and everything else unchanged. R191 marks it derived that PHP forces no bit (R190, R191). -/
def Obligations.PushesStoreTheByte : Prop :=
  (RowsOf .pha [(0x48, .implied)] ∧
    RowsOf .php [(0x08, .implied)]) ∧
  (∀ (s : State), Completes .pha s fun t => t.readByte (stackAddr (s.reg .S)) = s.reg .A ∧ t.reg .S = s.reg .S - 1 ∧
    t.pc = s.pc + 1 ∧ Frame [.S] [] [stackAddr (s.reg .S)] s t) ∧
  (∀ (s : State), Completes .php s fun t => t.readByte (stackAddr (s.reg .S)) = s.p ∧ t.reg .S = s.reg .S - 1 ∧
    t.pc = s.pc + 1 ∧ Frame [.S] [] [stackAddr (s.reg .S)] s t)

/-- PLA completes with A the byte at 0x0100 + (S + 1 mod 256) and Z, N those of it; PLP completes with P that byte, all eight bits; S = S + 1 mod 256, PC at next, and everything else unchanged (R192, R193). -/
def Obligations.PullsReadTheByte : Prop :=
  (RowsOf .pla [(0x68, .implied)] ∧
    RowsOf .plp [(0x28, .implied)]) ∧
  (∀ (s : State), Completes .pla s fun t => t.reg .A = s.readByte (stackAddr (s.reg .S + 1)) ∧ HasZN (t.reg .A) t ∧
    t.reg .S = s.reg .S + 1 ∧ t.pc = s.pc + 1 ∧ Frame [.A, .S] [.Z, .N] [] s t) ∧
  (∀ (s : State), Completes .plp s fun t => t.p = s.readByte (stackAddr (s.reg .S + 1)) ∧
    t.reg .S = s.reg .S + 1 ∧ t.pc = s.pc + 1 ∧ Frame [.S] [.C, .Z, .I, .D, .B, .U, .V, .N] [] s t)

/-- For every state, PHP and then PLP leaves P, all eight bits, and S as they were; PHA and then PLA leaves A and S as they were; only the one stack byte and, for PLA, Z and N may differ (45_stack_system_flags.md R191, 45_stack_system_flags.md R193, 45_stack_system_flags.md R190, 45_stack_system_flags.md R192). -/
def Obligations.PushThenPullRestores : Prop :=
  ∀ s : State,
    (∃ t u, exec .php s = .next t ∧ exec .plp t = .next u ∧ u.p = s.p ∧ Frame [] [] [stackAddr (s.reg .S)] s u) ∧
    (∃ t u, exec .pha s = .next t ∧ exec .pla t = .next u ∧ HasZN (s.reg .A) u ∧
      Frame [] [.Z, .N] [stackAddr (s.reg .S)] s u)

/-- BRK completes with three bytes pushed (high byte, low byte of pc0 + BRK_PUSH_OFFSET, then the flags byte, with B set first only if BRK_B_BEFORE_PUSH), S = S - 3 mod 256, B set in P, I set only if BRK_SETS_I, PC the word at 0xFFFE, and everything else unchanged (R194). -/
def Obligations.BreakEntersThroughTheIrqVector : Prop :=
  (RowsOf .brk [(0x00, .implied)]) ∧
  ∀ (s : State), Completes .brk s fun t =>
    (t.readByte (stackAddr (s.reg .S))).toNat = (s.pc + s.cfg.brkPushOffset).toNat / 256 ∧
    (t.readByte (stackAddr (s.reg .S - 1))).toNat = (s.pc + s.cfg.brkPushOffset).toNat % 256 ∧
    (∀ f, getFlag f (t.readByte (stackAddr (s.reg .S - 2))) = if f = .B then s.cfg.brkBBeforePush || s.flag .B else s.flag f) ∧
    t.reg .S = s.reg .S - 3 ∧ t.flag .B = true ∧ t.flag .I = (s.cfg.brkSetsI || s.flag .I) ∧ t.pc = s.readWord 0xFFFE ∧
    Frame [.S] [.B, .I] [stackAddr (s.reg .S), stackAddr (s.reg .S - 1), stackAddr (s.reg .S - 2)] s t

/-- NOP completes with PC = pc0 + 1, cycles advanced by 2, and every register, flag and byte of memory unchanged (R195). -/
def Obligations.NopOnlyAdvances : Prop :=
  (RowsOf .nop [(0xEA, .implied)]) ∧
  ∀ (s : State), Completes .nop s fun t => t.pc = s.pc + 1 ∧ t.cycles = s.cycles + 2 ∧ Frame [] [] [] s t

/-- Each of the seven completes with its flag at its value, PC = pc0 + 1 mod 65536, cycles advanced by 2, and every other flag, every register and every byte of memory unchanged (R196, R197, R198, R199, R200, R201, R202). -/
def Obligations.FlagInstructionsWriteOneBit : Prop :=
  (RowsOf .clc [(0x18, .implied)] ∧
    RowsOf .sec [(0x38, .implied)] ∧
    RowsOf .cli [(0x58, .implied)] ∧
    RowsOf .sei [(0x78, .implied)] ∧
    RowsOf .cld [(0xD8, .implied)] ∧
    RowsOf .sed [(0xF8, .implied)] ∧
    RowsOf .clv [(0xB8, .implied)]) ∧
  ∀ (i : Instr) (s : State) (f : Flag) (v : Bool),
    (i.handler, f, v) ∈ [(Handler.clc, Flag.C, false), (.sec, .C, true), (.cli, .I, false), (.sei, .I, true), (.cld, .D, false),
      (.sed, .D, true), (.clv, .V, false)] →
    Completes i s fun t => t.flag f = v ∧ t.pc = s.pc + 1 ∧ t.cycles = s.cycles + 2 ∧ Frame [] [f] [] s t

/-! ### Illegal opcodes -/

/-- Each of the 105 illegal opcodes completes with A, X, Y, S, P and memory what the uninterpreted IllegalEffect of the opcode, ea and the state says, PC = pc0 + size, the cycles of its entry with the penalty of R85; nothing is said of the effect itself. The treatment (any value, of the two that R211 allows) and memory as a list of stores are the model's choice (log 2, DESIGN CHOICE), as is the uninterpreted number for the cycles of KIL (log 3, DESIGN CHOICE) and the field of the configuration (log 1) (46_illegal_opcodes.md R210, 46_illegal_opcodes.md R211, 46_illegal_opcodes.md R212, 40_engine_addressing_flags.md R85). -/
def Obligations.IllegalOpcodesCompleteWithTheOpenEffect : Prop :=
  ∀ (i : Instr) (s : State), i.handler = .illegal →
    let r := Config.illegalEffect i.opcode (effAddr i s) (s.reg .A) (s.reg .X) (s.reg .Y) (s.reg .S) s.p s.mem
    Completes i s fun t => t.reg .A = r.a ∧ t.reg .X = r.x ∧ t.reg .Y = r.y ∧ t.reg .S = r.s ∧ t.p = r.p ∧
      (∀ a, t.readByte a = (s.writeAll r.stores).readByte a) ∧ t.pc = seqPc i s ∧
      t.cycles = s.cycles + baseCycles i.entry + pagePenalty i.entry t.pc (effAddr i s) ∧ t.cfg = s.cfg

/-! ### Interrupts -/

/-- The NMI entry pushes PC high, PC low and the flags byte (bit 4 as INT_PUSHED_B says, the rest as it stood), leaves S - 3 mod 256, sets I, loads PC from the word at 0xFFFA, adds 7 cycles, and changes nothing else, the live B among it; it does so for every state. The entry common to IRQ is stated with it (R226, R228, R229). -/
def Obligations.NmiEntersThroughItsVector : Prop :=
  ∀ (s t : State) (vec : Word), ((vec = 0xFFFA ∧ t = triggerNmi s) ∨ (vec = 0xFFFE ∧ t = interruptEntry irqVector s)) →
    t.pc = s.readWord vec ∧
    (t.readByte (stackAddr (s.reg .S))).toNat = s.pc.toNat / 256 ∧
    (t.readByte (stackAddr (s.reg .S - 1))).toNat = s.pc.toNat % 256 ∧
    (∀ f, f ≠ .B → getFlag f (t.readByte (stackAddr (s.reg .S - 2))) = s.flag f) ∧
    getFlag .B (t.readByte (stackAddr (s.reg .S - 2))) =
      (match s.cfg.intPushedB with | .keep => s.flag .B | .clear => false | .set => true) ∧
    t.reg .S = s.reg .S - 3 ∧ t.flag .I = true ∧ t.cycles = s.cycles + 7 ∧
    Frame [.S] [.I] [stackAddr (s.reg .S), stackAddr (s.reg .S - 1), stackAddr (s.reg .S - 2)] s t

/-- If I is 1 and IRQ_MASKED_BY_I, trigger_irq changes no state at all, the cycle counter among it; otherwise it performs the entry: PC from the word at 0xFFFE, PC and flags pushed, I set, 7 cycles, nothing else changed. NMI and BRK are never masked: whatever I is, they go where their vectors point (R225, R227). -/
def Obligations.IrqIsMaskedOrEnters : Prop :=
  ∀ s : State,
    ((s.flag .I = true ∧ s.cfg.irqMaskedByI = true) → triggerIrq s = s) ∧
    (¬(s.flag .I = true ∧ s.cfg.irqMaskedByI = true) → ∀ t, t = triggerIrq s → t.pc = s.readWord 0xFFFE ∧
    (t.readByte (stackAddr (s.reg .S))).toNat = s.pc.toNat / 256 ∧
    (t.readByte (stackAddr (s.reg .S - 1))).toNat = s.pc.toNat % 256 ∧
    (∀ f, f ≠ .B → getFlag f (t.readByte (stackAddr (s.reg .S - 2))) = s.flag f) ∧
    getFlag .B (t.readByte (stackAddr (s.reg .S - 2))) =
      (match s.cfg.intPushedB with | .keep => s.flag .B | .clear => false | .set => true) ∧
    t.reg .S = s.reg .S - 3 ∧ t.flag .I = true ∧ t.cycles = s.cycles + 7 ∧
    Frame [.S] [.I] [stackAddr (s.reg .S), stackAddr (s.reg .S - 1), stackAddr (s.reg .S - 2)] s t) ∧
    (triggerNmi s).pc = s.readWord 0xFFFA ∧ Completes .brk s fun t => t.pc = s.readWord 0xFFFE

/-- For every state, RTI right after the entry of an NMI, or of an IRQ that is taken, ends with PC, S, A, X, Y and every flag but Break as they were at the request, Break as INT_PUSHED_B pushed it, and no byte of memory changed but the three stack bytes (R233 marks this derived) (60_exceptions.md R233, 60_exceptions.md R228, 44_branch_jump.md R182). -/
def Obligations.InterruptThenReturnRestores : Prop :=
  ∀ s t : State, (t = triggerNmi s ∨ (t = triggerIrq s ∧ ¬(s.flag .I = true ∧ s.cfg.irqMaskedByI = true))) →
    Completes .rti t fun u => u.pc = s.pc ∧
      u.flag .B = (match s.cfg.intPushedB with | .keep => s.flag .B | .clear => false | .set => true) ∧
      Frame [] [.B] [stackAddr (s.reg .S), stackAddr (s.reg .S - 1), stackAddr (s.reg .S - 2)] s u

/-- For every state, RTI right after BRK ends with PC = pc0 + BRK_PUSH_OFFSET, S and A, X, Y as before, every flag but Break as before the BRK, and Break as it was pushed (60_exceptions.md R233, 70_reset_and_hazards.md R256, 45_stack_system_flags.md R194). -/
def Obligations.BreakThenReturnResumes : Prop :=
  ∀ s : State, ∃ t u, exec .brk s = .next t ∧ exec .rti t = .next u ∧ u.pc = s.pc + s.cfg.brkPushOffset ∧
    u.flag .B = (s.cfg.brkBBeforePush || s.flag .B) ∧
    Frame [] [.B] [stackAddr (s.reg .S), stackAddr (s.reg .S - 1), stackAddr (s.reg .S - 2)] s u

/-! ### Whole-machine rules -/

/-- Every instruction completes, and every flag that R26 does not list for a legal instruction (under the configuration for TSX and BRK) is unchanged by it. An illegal opcode has no row in R26 and R210 leaves all of P open after it, so nothing is said of its flags (10_state.md R26, 40_engine_addressing_flags.md R104, 46_illegal_opcodes.md R210). -/
def Obligations.FlagsChangeOnlyAsTheTableSays : Prop :=
  ∀ (i : Instr) (s : State), Completes i s fun t => KeepsFlags (flagsWritten i.handler s.cfg) s t

/-- From a state whose Unused flag is set, every legal instruction but PLP and RTI leaves it set; PLP and RTI leave it as bit 5 of the byte they pull; interrupt entry leaves it set (10_state.md R25, 93_implementation_defined.md U9). -/
def Obligations.UnusedFlagSurvives : Prop :=
  ∀ (i : Instr) (s : State), s.flag .U = true → i.handler ≠ .illegal →
    (Completes i s fun t => t.flag .U =
      if i.handler = .plp ∨ i.handler = .rti then (s.readByte (stackAddr (s.reg .S + 1))).getLsbD 5 else true) ∧
    (triggerNmi s).flag .U = true ∧ (triggerIrq s).flag .U = true

/-- Among legal instructions, A is written only by ADC, SBC, AND, EOR, ORA, LDA, PLA, TXA, TYA and the Accumulator forms of the shifts; X only by LDX, TAX, TSX, INX, DEX; Y only by LDY, TAY, INY, DEY; S only by the pushes and pulls (PHA, PHP, PLA, PLP, JSR, RTS, RTI, BRK) and TXS. Nothing is said of the illegal opcodes, after which R210 leaves all four open (10_state.md R21, 10_state.md R22, 10_state.md R23, 46_illegal_opcodes.md R210). -/
def Obligations.RegistersChangeOnlyByTheirInstructions : Prop :=
  ∀ (i : Instr) (s : State), i.handler ≠ .illegal → Completes i s fun t =>
    (i.handler ∉ [.adc, .sbc, .and, .eor, .ora, .lda, .pla, .txa, .tya] → i.operand ≠ .accumulator → t.reg .A = s.reg .A) ∧
    (i.handler ∉ [.ldx, .tax, .tsx, .inx, .dex] → t.reg .X = s.reg .X) ∧
    (i.handler ∉ [.ldy, .tay, .iny, .dey] → t.reg .Y = s.reg .Y) ∧
    (i.handler ∉ [.pha, .php, .pla, .plp, .jsr, .rts, .rti, .brk, .txs] → t.reg .S = s.reg .S)

/-- For every instruction, every address outside those it stores to (the effective address of the stores, of INC, DEC and the memory shifts; the stack slots of the pushes, JSR and BRK; the open stores of an illegal opcode) reads as before. That an illegal opcode's open effect on memory is a list of stores is the model's own form (log 2, DESIGN CHOICE): the list is uninterpreted, so it may name any address (20_memory.md R49, 20_memory.md R43, 46_illegal_opcodes.md R210). -/
def Obligations.MemoryChangesOnlyWhereTheInstructionStores : Prop :=
  ∀ (i : Instr) (s : State), Completes i s fun t => KeepsMem (storedTo i s) s t

/-! ### The host interface -/

/-- Running m + n steps is running m steps and then n from the state reached; one step is step(1), and step(0) leaves the state as it is (40_engine_addressing_flags.md R84, 70_reset_and_hazards.md R260). -/
def Obligations.StepsCompose : Prop :=
  (∀ s : State, stepN 0 s = .next s ∧ stepN 1 s = step s) ∧
  ∀ (m n : Nat) (s : State), ∃ t, stepN m s = .next t ∧ stepN (m + n) s = stepN n t

/-- load_program refuses 65,536 bytes or more and changes nothing, and otherwise writes addresses 0 to len-1 and no other; write_range refuses a range past 65,536 and changes nothing, and otherwise writes that range and no other byte; neither changes a register; read_range is empty past the end and otherwise the bytes of the range (R259, R262, R263). -/
def Obligations.LoadingAndRangesFailWithoutMutation : Prop :=
  ∀ (s : State) (bytes : List Byte) (start : Word) (len : Nat),
    (65536 ≤ bytes.length → loadProgram bytes s = (false, s)) ∧
    (bytes.length < 65536 → ∃ t, loadProgram bytes s = (true, t) ∧
      (∀ a : Word, t.readByte a = (bytes[a.toNat]?).getD (s.readByte a)) ∧ getRegisters t = getRegisters s ∧
      t.cycles = s.cycles ∧ t.cfg = s.cfg) ∧
    (65536 < start.toNat + bytes.length → writeRange bytes start s = (false, s)) ∧
    (start.toNat + bytes.length ≤ 65536 → ∃ t, writeRange bytes start s = (true, t) ∧
      (∀ a : Word, t.readByte a = if start.toNat ≤ a.toNat then (bytes[a.toNat - start.toNat]?).getD (s.readByte a) else s.readByte a) ∧
      getRegisters t = getRegisters s ∧ t.cycles = s.cycles ∧ t.cfg = s.cfg) ∧
    (65536 < start.toNat + len → readRange start len s = []) ∧
    (start.toNat + len ≤ 65536 → (readRange start len s).length = len ∧
      ∀ k < len, (readRange start len s)[k]? = some (s.readByte (BitVec.ofNat 16 (start.toNat + k))))

/-- After set_registers, get_registers gives exactly the six values set, bits 4 and 5 of P among them; memory, the cycle counter and the configuration are unchanged; a get changes nothing (R264). -/
def Obligations.RegisterPortReadsAndWritesSixRegisters : Prop :=
  ∀ (s : State) (r : Registers),
    getRegisters (setRegisters r s) = r ∧ setRegisters (getRegisters s) s = s ∧ (setRegisters r s).mem = s.mem ∧
    (setRegisters r s).cycles = s.cycles ∧ (setRegisters r s).cfg = s.cfg

/-- From a state that meets the invariant, every transaction of the host (byte and word writes, load_program, write_range, set_registers, both interrupt requests) leaves a state that meets it. The canonical form is the model's own (log 17) (70_reset_and_hazards.md R258, 70_reset_and_hazards.md R265, 20_memory.md R57). -/
def Obligations.HostTransactionsKeepTheInvariant : Prop :=
  ∀ (s : State), s.Inv → ∀ (a w : Word) (v : Byte) (bytes : List Byte) (r : Registers),
    (s.writeByte a v).Inv ∧ (s.writeWord a w).Inv ∧ (loadProgram bytes s).2.Inv ∧ (writeRange bytes a s).2.Inv ∧
    (setRegisters r s).Inv ∧ (triggerNmi s).Inv ∧ (triggerIrq s).Inv
end

