-- ==== Sys2Proof/Laws/Table.lean ====
section
/-! SUPPORT. What holds of every entry of the opcode table and of every encoding (30_encoding.md R60, R63, R64, R68). -/

namespace Sys2Proof

/-- Every entry of the table is well formed. -/
theorem entryOf_wf (op : Byte) : (entryOf op).wf = true := by
  revert op; decide

/-- The size of an entry is the size of its mode (R63). -/
theorem entryOf_size (op : Byte) : (entryOf op).size = (entryOf op).mode.size := by
  have h := entryOf_wf op
  simp only [Entry.wf, Bool.and_eq_true, beq_iff_eq] at h
  exact h.1.1

/-- A size is 1, 2 or 3 (R60). -/
theorem entryOf_size_cases (op : Byte) : (entryOf op).size = 1 ∨ (entryOf op).size = 2 ∨ (entryOf op).size = 3 := by
  rw [entryOf_size]
  cases (entryOf op).mode <;> simp [Mode.size]

/-- An encoding has the length of its operand's mode. -/
theorem encode_length (i : Instr) : (encode i).length = i.operand.mode.size := by
  unfold encode
  cases i.operand <;> rfl

/-- An instruction's operand has the mode of its row. -/
theorem operand_mode_of_row {i : Instr} {op : Byte} {o : Operand} (h : i.coded = (op, o)) (hm : o.mode = (entryOf op).mode) :
    i.operand.mode = (entryOf i.opcode).mode := by
  have hop : i.opcode = op := congrArg Prod.fst h
  have ho : i.operand = o := congrArg Prod.snd h
  rw [hop, ho, hm]

/-- The operand of every instruction has the mode of its table entry. -/
theorem operand_mode (i : Instr) : i.operand.mode = (entryOf i.opcode).mode := by
  cases i <;> exact operand_mode_of_row rfl rfl

end Sys2Proof
end

