-- ==== Sys2Proof/Laws/Coding.lean ====
section
/-! SUPPORT. What the matrix of the decoder (30_encoding.md R66) and the encoder's table say of each other, row by row: the two lemmas
that the round trips rest on. -/

namespace Sys2Proof

/-- The operand of a mode, from the operand byte `b` and the operand word `w` (R60, R61). -/
def Mode.operand (m : Mode) (b : Byte) (w : Word) : Operand :=
  match m with
  | .absolute => .absolute w
  | .absoluteX => .absoluteX w
  | .absoluteY => .absoluteY w
  | .accumulator => .accumulator
  | .immediate => .immediate b
  | .implied => .implied
  | .indirect => .indirect w
  | .indirectX => .indirectX b
  | .indirectY => .indirectY b
  | .relative => .relative b
  | .zeroPage => .zeroPage b
  | .zeroPageX => .zeroPageX b
  | .zeroPageY => .zeroPageY b

/-- The operand byte of an operand, 0 where it has none. -/
def Operand.byteArg : Operand → Byte
  | .immediate b | .indirectX b | .indirectY b | .relative b | .zeroPage b | .zeroPageX b | .zeroPageY b => b
  | .absolute _ | .absoluteX _ | .absoluteY _ | .accumulator | .implied | .indirect _ => 0

/-- The operand word of an operand, 0 where it has none. -/
def Operand.wordArg : Operand → Word
  | .absolute w | .absoluteX w | .absoluteY w | .indirect w => w
  | .immediate _ | .indirectX _ | .indirectY _ | .relative _ | .zeroPage _ | .zeroPageX _ | .zeroPageY _ | .accumulator
  | .implied => 0

/-- The instruction in the cell of the matrix for an opcode. -/
def cellOf (op b : Byte) (w : Word) : Instr :=
  ((instrMatrix[op.toNat / 16]'(by have := op.isLt; omega))[op.toNat % 16]'(Nat.mod_lt _ (by decide))) b w

theorem decode_eq_cellOf (op b1 b2 : Byte) : decode op b1 b2 = cellOf op b1 (mkWord b2 b1) := rfl

set_option maxRecDepth 4000 in
theorem matrix_coded (r c : Fin 16) (b : Byte) (w : Word) : ((instrMatrix[r])[c] b w).coded =
    (BitVec.ofNat 8 (r.val * 16 + c.val), (entryOf (BitVec.ofNat 8 (r.val * 16 + c.val))).mode.operand b w) := by
  fin_cases r <;> fin_cases c <;> rfl

/-- The encoder gives each cell of the matrix back its opcode and its operand. -/
theorem cellOf_coded (op b : Byte) (w : Word) : (cellOf op b w).coded = (op, (entryOf op).mode.operand b w) := by
  have h := matrix_coded ⟨op.toNat / 16, by have := op.isLt; omega⟩ ⟨op.toNat % 16, Nat.mod_lt _ (by decide)⟩ b w
  rw [show BitVec.ofNat 8 (op.toNat / 16 * 16 + op.toNat % 16) = op from by
    rw [Nat.div_add_mod']; simp] at h
  exact h

theorem cellOf_of_row {i : Instr} {op : Byte} {o : Operand} (h : i.coded = (op, o))
    (hc : cellOf op o.byteArg o.wordArg = i) : cellOf i.opcode i.operand.byteArg i.operand.wordArg = i := by
  have hop : i.opcode = op := congrArg Prod.fst h
  have ho : i.operand = o := congrArg Prod.snd h
  rw [hop, ho, hc]

/-- The matrix gives each instruction back from its opcode and its operand. -/
theorem cellOf_of_coded (i : Instr) : cellOf i.opcode i.operand.byteArg i.operand.wordArg = i := by
  cases i <;> exact cellOf_of_row rfl rfl

/-- An instruction is its opcode and its operand. -/
theorem coded_injective {i j : Instr} (h : i.coded = j.coded) : i = j := by
  have hop : i.opcode = j.opcode := congrArg Prod.fst h
  have ho : i.operand = j.operand := congrArg Prod.snd h
  rw [← cellOf_of_coded i, ← cellOf_of_coded j, hop, ho]

end Sys2Proof
end

