-- ==== Sys2Proof/Laws/Exec.lean ====
section
/-! SUPPORT. Every instruction is one activation of the engine (40_engine_addressing_flags.md R80) on the handler its table entry names:
the lemma later proofs cite instead of splitting over the 256 instructions. -/

namespace Sys2Proof.Machine

/-- The handler of the dispatch table (30_encoding.md R71). -/
def handlerOf (h : Handler) (op : Byte) : Ctx → State → State :=
  match h with
  | .adc => opAdc | .and => opAnd | .asl => opAsl | .bcc => opBcc | .bcs => opBcs | .beq => opBeq | .bit => opBit
  | .bmi => opBmi | .bne => opBne | .bpl => opBpl | .brk => opBrk | .bvc => opBvc | .bvs => opBvs | .clc => opClc
  | .cld => opCld | .cli => opCli | .clv => opClv | .cmp => opCmp | .cpx => opCpx | .cpy => opCpy | .dec => opDec
  | .dex => opDex | .dey => opDey | .eor => opEor | .inc => opInc | .inx => opInx | .iny => opIny | .jmp => opJmp
  | .jsr => opJsr | .lda => opLda | .ldx => opLdx | .ldy => opLdy | .lsr => opLsr | .nop => opNop | .ora => opOra
  | .pha => opPha | .php => opPhp | .pla => opPla | .plp => opPlp | .rol => opRol | .ror => opRor | .rti => opRti
  | .rts => opRts | .sbc => opSbc | .sec => opSec | .sed => opSed | .sei => opSei | .sta => opSta | .stx => opStx
  | .sty => opSty | .tax => opTax | .tay => opTay | .tsx => opTsx | .txa => opTxa | .txs => opTxs | .tya => opTya
  | .illegal => opIllegal op

/-- What a row's own meaning amounts to, once its opcode and operand are known. -/
theorem exec_of_row {i : Instr} {s : State} {op : Byte} {o : Operand} (h : i.coded = (op, o))
    (he : exec i s = runOp op o (handlerOf (entryOf op).handler op) s) :
    exec i s = .next (perform i.opcode i.operand (handlerOf i.handler i.opcode) s) := by
  have hop : i.opcode = op := congrArg Prod.fst h
  have ho : i.operand = o := congrArg Prod.snd h
  rw [he, Instr.handler, Instr.entry, hop, ho, runOp]

/-- Executing an instruction is performing its handler (R80): it answers a next state, always. -/
theorem exec_eq (i : Instr) (s : State) :
    exec i s = .next (perform i.opcode i.operand (handlerOf i.handler i.opcode) s) := by
  cases i <;> exact exec_of_row rfl rfl

end Sys2Proof.Machine
end

