-- ==== Sys2Proof/Laws/State.lean ====
section
/-! SUPPORT. One lemma per field per update of the state, so that no later proof unfolds a record update. -/

namespace Sys2Proof.Machine

variable (s : State) (r r' : Reg) (v : Byte) (f : Flag) (b : Bool) (a : Word) (l : List (Word × Byte))

/-! ### Registers -/

@[simp] theorem reg_setReg_self : (s.setReg r v).reg r = v := by cases r <;> rfl
@[simp] theorem reg_setReg_ne {r r' : Reg} (h : r' ≠ r) : (s.setReg r v).reg r' = s.reg r' := by
  cases r <;> cases r' <;> first | rfl | exact absurd rfl h
@[simp] theorem setReg_p : (s.setReg r v).p = s.p := by cases r <;> rfl
@[simp] theorem setReg_pc : (s.setReg r v).pc = s.pc := by cases r <;> rfl
@[simp] theorem setReg_mem : (s.setReg r v).mem = s.mem := by cases r <;> rfl
@[simp] theorem setReg_cycles : (s.setReg r v).cycles = s.cycles := by cases r <;> rfl
@[simp] theorem setReg_cfg : (s.setReg r v).cfg = s.cfg := by cases r <;> rfl
@[simp] theorem setReg_flag : (s.setReg r v).flag f = s.flag f := by simp [State.flag]
@[simp] theorem setReg_readByte : (s.setReg r v).readByte a = s.readByte a := by simp [State.readByte]

/-! ### Flags -/

@[simp] theorem withFlag_reg : (s.withFlag f b).reg r = s.reg r := by cases r <;> rfl
@[simp] theorem withFlag_pc : (s.withFlag f b).pc = s.pc := rfl
@[simp] theorem withFlag_mem : (s.withFlag f b).mem = s.mem := rfl
@[simp] theorem withFlag_cycles : (s.withFlag f b).cycles = s.cycles := rfl
@[simp] theorem withFlag_cfg : (s.withFlag f b).cfg = s.cfg := rfl
@[simp] theorem withFlag_p : (s.withFlag f b).p = setFlag f b s.p := rfl
@[simp] theorem withFlag_readByte : (s.withFlag f b).readByte a = s.readByte a := rfl

/-! ### Memory -/

@[simp] theorem writeByte_reg : (s.writeByte a v).reg r = s.reg r := by cases r <;> rfl
@[simp] theorem writeByte_p : (s.writeByte a v).p = s.p := rfl
@[simp] theorem writeByte_pc : (s.writeByte a v).pc = s.pc := rfl
@[simp] theorem writeByte_mem : (s.writeByte a v).mem = Memory.write s.mem a.toNat v := rfl
@[simp] theorem writeByte_cycles : (s.writeByte a v).cycles = s.cycles := rfl
@[simp] theorem writeByte_cfg : (s.writeByte a v).cfg = s.cfg := rfl
@[simp] theorem writeByte_flag : (s.writeByte a v).flag f = s.flag f := rfl
@[simp] theorem writeAll_reg : (s.writeAll l).reg r = s.reg r := by cases r <;> rfl
@[simp] theorem writeAll_p : (s.writeAll l).p = s.p := rfl
@[simp] theorem writeAll_pc : (s.writeAll l).pc = s.pc := rfl
@[simp] theorem writeAll_cycles : (s.writeAll l).cycles = s.cycles := rfl
@[simp] theorem writeAll_cfg : (s.writeAll l).cfg = s.cfg := rfl

/-! ### Whole-field updates -/

@[simp] theorem setP_reg (q : Byte) : (s.setP q).reg r = s.reg r := by cases r <;> rfl
@[simp] theorem setP_p (q : Byte) : (s.setP q).p = q := rfl
@[simp] theorem setP_pc (q : Byte) : (s.setP q).pc = s.pc := rfl
@[simp] theorem setP_mem (q : Byte) : (s.setP q).mem = s.mem := rfl
@[simp] theorem setP_cycles (q : Byte) : (s.setP q).cycles = s.cycles := rfl
@[simp] theorem setP_cfg (q : Byte) : (s.setP q).cfg = s.cfg := rfl
@[simp] theorem setP_flag (q : Byte) : (s.setP q).flag f = getFlag f q := rfl
@[simp] theorem setP_readByte (q : Byte) : (s.setP q).readByte a = s.readByte a := rfl
@[simp] theorem setPc_reg (w : Word) : (s.setPc w).reg r = s.reg r := by cases r <;> rfl
@[simp] theorem setPc_p (w : Word) : (s.setPc w).p = s.p := rfl
@[simp] theorem setPc_pc (w : Word) : (s.setPc w).pc = w := rfl
@[simp] theorem setPc_mem (w : Word) : (s.setPc w).mem = s.mem := rfl
@[simp] theorem setPc_cycles (w : Word) : (s.setPc w).cycles = s.cycles := rfl
@[simp] theorem setPc_cfg (w : Word) : (s.setPc w).cfg = s.cfg := rfl
@[simp] theorem setPc_flag (w : Word) : (s.setPc w).flag f = s.flag f := rfl
@[simp] theorem setPc_readByte (w : Word) : (s.setPc w).readByte a = s.readByte a := rfl
@[simp] theorem setMem_reg (m : Memory) : (s.setMem m).reg r = s.reg r := by cases r <;> rfl
@[simp] theorem setMem_p (m : Memory) : (s.setMem m).p = s.p := rfl
@[simp] theorem setMem_pc (m : Memory) : (s.setMem m).pc = s.pc := rfl
@[simp] theorem setMem_mem (m : Memory) : (s.setMem m).mem = m := rfl
@[simp] theorem setMem_cycles (m : Memory) : (s.setMem m).cycles = s.cycles := rfl
@[simp] theorem setMem_cfg (m : Memory) : (s.setMem m).cfg = s.cfg := rfl
@[simp] theorem setMem_flag (m : Memory) : (s.setMem m).flag f = s.flag f := rfl
@[simp] theorem setMem_readByte (m : Memory) : (s.setMem m).readByte a = Memory.read m a.toNat := rfl
@[simp] theorem addCycles_reg (n : Nat) : (s.addCycles n).reg r = s.reg r := by cases r <;> rfl
@[simp] theorem addCycles_p (n : Nat) : (s.addCycles n).p = s.p := rfl
@[simp] theorem addCycles_pc (n : Nat) : (s.addCycles n).pc = s.pc := rfl
@[simp] theorem addCycles_mem (n : Nat) : (s.addCycles n).mem = s.mem := rfl
@[simp] theorem addCycles_cycles (n : Nat) : (s.addCycles n).cycles = s.cycles + n := rfl
@[simp] theorem addCycles_cfg (n : Nat) : (s.addCycles n).cfg = s.cfg := rfl
@[simp] theorem addCycles_flag (n : Nat) : (s.addCycles n).flag f = s.flag f := rfl
@[simp] theorem addCycles_readByte (n : Nat) : (s.addCycles n).readByte a = s.readByte a := rfl

end Sys2Proof.Machine
end

