-- ==== Sys2Proof/Laws/Memory.lean ====
section
/-! SUPPORT. The laws of memory (20_memory.md R42, R43): a read after a write, in every state, and the canonical form, which every
operation keeps. -/

namespace Sys2Proof.Machine

/-! ### Reading -/

theorem read_erase (m : Memory) (a b : Nat) :
    Memory.read (Memory.erase m a) b = if b = a then Memory.unlisted else Memory.read m b := by
  induction m with
  | nil => simp [Memory.erase, Memory.read]
  | cons c rest ih =>
    obtain ⟨k, u⟩ := c
    simp only [Memory.erase, List.filter_cons] at ih ⊢
    by_cases hk : k = a
    · subst hk
      by_cases hb : b = k
      · subst hb; simpa using ih
      · simp [hb, Memory.read, Ne.symm hb] at ih ⊢
        exact ih
    · by_cases hb : k = b
      · subst hb; simp [hk, Memory.read]
      · simp [hk, Memory.read, hb, ih]

theorem read_insertCell (m : Memory) (a b : Nat) (v : Byte) (h : ∀ c ∈ m, c.1 ≠ a) :
    Memory.read (Memory.insertCell a v m) b = if b = a then v else Memory.read m b := by
  induction m with
  | nil => simp [Memory.insertCell, Memory.read, eq_comm]
  | cons c rest ih =>
    obtain ⟨k, u⟩ := c
    have hk : k ≠ a := h (k, u) (by simp)
    have ih := ih fun c hc => h c (by simp [hc])
    by_cases hlt : a < k
    · simp [Memory.insertCell, hlt, Memory.read, eq_comm]
    · by_cases hb : b = a
      · subst hb; simp [Memory.insertCell, hlt, Memory.read, hk, ih]
      · simp [Memory.insertCell, hlt, Memory.read, ih, hb]

theorem erase_ne (m : Memory) (a : Nat) : ∀ c ∈ Memory.erase m a, c.1 ≠ a := by
  intro c hc
  simp [Memory.erase] at hc
  exact hc.2

/-- A read after a write, in every memory. -/
theorem read_write (m : Memory) (a b : Nat) (v : Byte) :
    Memory.read (Memory.write m a v) b = if b = a then v else Memory.read m b := by
  unfold Memory.write
  split
  · rename_i h; rw [read_erase, h]
  · rw [read_insertCell _ _ _ _ (erase_ne m a), read_erase]
    split <;> simp_all

@[simp] theorem readByte_writeByte_self (s : State) (a : Word) (v : Byte) : (s.writeByte a v).readByte a = v := by
  simp [State.readByte, read_write]

theorem readByte_writeByte (s : State) (a b : Word) (v : Byte) :
    (s.writeByte a v).readByte b = if b = a then v else s.readByte b := by
  simp [State.readByte, read_write, BitVec.toNat_inj]

@[simp] theorem readByte_writeByte_ne (s : State) {a b : Word} (v : Byte) (h : b ≠ a) :
    (s.writeByte a v).readByte b = s.readByte b := by
  simp [readByte_writeByte, h]

/-! ### The canonical form -/

theorem wfFrom_mono {lo lo' : Nat} (h : lo' ≤ lo) (m : Memory) (hm : Memory.wfFrom lo m = true) :
    Memory.wfFrom lo' m = true := by
  cases m with
  | nil => rfl
  | cons c rest =>
    obtain ⟨k, u⟩ := c
    simp only [Memory.wfFrom, Bool.and_eq_true, decide_eq_true_eq] at hm ⊢
    exact ⟨⟨⟨le_trans h hm.1.1.1, hm.1.1.2⟩, hm.1.2⟩, hm.2⟩

theorem wfFrom_erase (lo a : Nat) (m : Memory) (hm : Memory.wfFrom lo m = true) :
    Memory.wfFrom lo (Memory.erase m a) = true := by
  induction m generalizing lo with
  | nil => rfl
  | cons c rest ih =>
    obtain ⟨k, u⟩ := c
    simp only [Memory.wfFrom, Bool.and_eq_true, decide_eq_true_eq] at hm
    have ih := ih (k + 1) hm.2
    simp only [Memory.erase, List.filter_cons] at ih ⊢
    by_cases hk : k = a
    · simpa [hk] using wfFrom_mono (show lo ≤ k + 1 by omega) _ ih
    · simp only [hk, Bool.not_eq_true', beq_eq_false_iff_ne, ne_eq, not_false_eq_true, if_true,
        Memory.wfFrom, Bool.and_eq_true, decide_eq_true_eq]
      exact ⟨hm.1, ih⟩

theorem wfFrom_insertCell (lo a : Nat) (v : Byte) (m : Memory) (hlo : lo ≤ a) (ha : a < 65536) (hv : v ≠ Memory.unlisted)
    (h : ∀ c ∈ m, c.1 ≠ a) (hm : Memory.wfFrom lo m = true) : Memory.wfFrom lo (Memory.insertCell a v m) = true := by
  induction m generalizing lo with
  | nil => simp [Memory.insertCell, Memory.wfFrom, hlo, ha, hv]
  | cons c rest ih =>
    obtain ⟨k, u⟩ := c
    have hk : k ≠ a := h (k, u) (by simp)
    simp only [Memory.wfFrom, Bool.and_eq_true, decide_eq_true_eq] at hm
    by_cases hlt : a < k
    · simp only [Memory.insertCell, hlt, if_true, Memory.wfFrom, Bool.and_eq_true, decide_eq_true_eq]
      exact ⟨⟨⟨hlo, ha⟩, by simpa using hv⟩, ⟨⟨by omega, hm.1.1.2⟩, hm.1.2⟩, hm.2⟩
    · simp only [Memory.insertCell, hlt, if_false, Memory.wfFrom, Bool.and_eq_true, decide_eq_true_eq]
      exact ⟨hm.1, ih (k + 1) (by omega) (fun c hc => h c (by simp [hc])) hm.2⟩

/-- Every write inside the address space keeps the canonical form. -/
theorem wf_write (m : Memory) (a : Nat) (v : Byte) (ha : a < 65536) (hm : Memory.wf m = true) :
    Memory.wf (Memory.write m a v) = true := by
  unfold Memory.write
  split
  · exact wfFrom_erase 0 a m hm
  · rename_i hv
    exact wfFrom_insertCell 0 a v _ (Nat.zero_le a) ha hv (erase_ne m a) (wfFrom_erase 0 a m hm)

theorem wf_writeByte (s : State) (a : Word) (v : Byte) (h : Memory.wf s.mem = true) :
    Memory.wf (s.writeByte a v).mem = true := wf_write _ _ _ a.isLt h

theorem wf_writeAll (l : List (Word × Byte)) (s : State) (h : Memory.wf s.mem = true) :
    Memory.wf (s.writeAll l).mem = true := by
  induction l generalizing s with
  | nil => exact h
  | cons c rest ih => exact ih (s.writeByte c.1 c.2) (wf_writeByte s c.1 c.2 h)

/-- A list of stores leaves every address it does not name as it was. -/
theorem readByte_writeAll (l : List (Word × Byte)) (s : State) (a : Word) (h : a ∉ l.map Prod.fst) :
    (s.writeAll l).readByte a = s.readByte a := by
  induction l generalizing s with
  | nil => rfl
  | cons c rest ih =>
    simp only [List.map_cons, List.mem_cons, not_or] at h
    exact (ih (s.writeByte c.1 c.2) h.2).trans (readByte_writeByte_ne s c.2 h.1)

/-- An address below the floor of a canonical memory is unlisted. -/
theorem read_of_lt_floor (lo a : Nat) (m : Memory) (h : a < lo) (hm : Memory.wfFrom lo m = true) :
    Memory.read m a = Memory.unlisted := by
  induction m generalizing lo with
  | nil => rfl
  | cons c rest ih =>
    obtain ⟨k, u⟩ := c
    simp only [Memory.wfFrom, Bool.and_eq_true, decide_eq_true_eq] at hm
    have : k ≠ a := by omega
    simp [Memory.read, this, ih (k + 1) (by omega) hm.2]

end Sys2Proof.Machine
end

