-- ==== Sys2Proof/Laws/Flags.lean ====
section
/-! SUPPORT. The laws of the flags (40_engine_addressing_flags.md R100 to R104): what each flag computation leaves in every flag, and
that it touches nothing else. -/

namespace Sys2Proof.Machine

variable (s : State) (r : Reg) (v m : Byte) (f g : Flag) (b : Bool) (a : Word)

/-- Writing one flag never changes another bit of `P` (R104). -/
theorem getFlag_setFlag (p : Byte) : getFlag f (setFlag g b p) = if f = g then b else getFlag f p := by
  cases f <;> cases g <;> cases b <;> simp [getFlag, setFlag, flagBit]

@[simp] theorem getFlag_setFlag_self (p : Byte) : getFlag f (setFlag f b p) = b := by simp [getFlag_setFlag]

@[simp] theorem getFlag_setFlag_ne {f g : Flag} (h : f ≠ g) (p : Byte) : getFlag f (setFlag g b p) = getFlag f p := by
  simp [getFlag_setFlag, h]

/-- A flags byte is its eight flags. -/
theorem flags_ext {p q : Byte} (h : ∀ f, getFlag f p = getFlag f q) : p = q := by
  apply BitVec.eq_of_getLsbD_eq
  intro i hi
  have h0 := h .C; have h1 := h .Z; have h2 := h .I; have h3 := h .D
  have h4 := h .B; have h5 := h .U; have h6 := h .V; have h7 := h .N
  simp only [getFlag, flagBit] at h0 h1 h2 h3 h4 h5 h6 h7
  rcases (by omega : i = 0 ∨ i = 1 ∨ i = 2 ∨ i = 3 ∨ i = 4 ∨ i = 5 ∨ i = 6 ∨ i = 7) with
    rfl | rfl | rfl | rfl | rfl | rfl | rfl | rfl <;> assumption

@[simp] theorem withFlag_flag_self : (s.withFlag f b).flag f = b := by simp [State.flag]

@[simp] theorem withFlag_flag_ne {f g : Flag} (h : f ≠ g) : (s.withFlag g b).flag f = s.flag f := by
  simp [State.flag, h]

/-! ### SetZN -/

@[simp] theorem setZN_Z : (setZN v s).flag .Z = (v == 0) := by simp [setZN]
@[simp] theorem setZN_N : (setZN v s).flag .N = v.msb := by simp [setZN]
@[simp] theorem setZN_flag {f : Flag} (hz : f ≠ .Z) (hn : f ≠ .N) : (setZN v s).flag f = s.flag f := by simp [setZN, hz, hn]
@[simp] theorem setZN_reg : (setZN v s).reg r = s.reg r := by simp [setZN]
@[simp] theorem setZN_pc : (setZN v s).pc = s.pc := rfl
@[simp] theorem setZN_mem : (setZN v s).mem = s.mem := rfl
@[simp] theorem setZN_cycles : (setZN v s).cycles = s.cycles := rfl
@[simp] theorem setZN_cfg : (setZN v s).cfg = s.cfg := rfl
@[simp] theorem setZN_readByte : (setZN v s).readByte a = s.readByte a := rfl

/-! ### SetNV_bits -/

@[simp] theorem setNVBits_N : (setNVBits v s).flag .N = v.getLsbD 7 := by simp [setNVBits]
@[simp] theorem setNVBits_V : (setNVBits v s).flag .V = v.getLsbD 6 := by simp [setNVBits]
@[simp] theorem setNVBits_flag {f : Flag} (hn : f ≠ .N) (hv : f ≠ .V) : (setNVBits v s).flag f = s.flag f := by
  simp [setNVBits, hn, hv]
@[simp] theorem setNVBits_reg : (setNVBits v s).reg r = s.reg r := by simp [setNVBits]
@[simp] theorem setNVBits_pc : (setNVBits v s).pc = s.pc := rfl
@[simp] theorem setNVBits_mem : (setNVBits v s).mem = s.mem := rfl
@[simp] theorem setNVBits_cycles : (setNVBits v s).cycles = s.cycles := rfl
@[simp] theorem setNVBits_cfg : (setNVBits v s).cfg = s.cfg := rfl
@[simp] theorem setNVBits_readByte : (setNVBits v s).readByte a = s.readByte a := rfl

/-! ### AddWithCarry -/

@[simp] theorem addWithCarry_A : (addWithCarry m s).reg .A = BitVec.ofNat 8 (rawSum (s.reg .A) m (s.flag .C)) := by
  simp [addWithCarry]
@[simp] theorem addWithCarry_reg {r : Reg} (h : r ≠ .A) : (addWithCarry m s).reg r = s.reg r := by
  simp [addWithCarry, h]
@[simp] theorem addWithCarry_C : (addWithCarry m s).flag .C = decide (rawSum (s.reg .A) m (s.flag .C) > 0xFF) := by
  simp [addWithCarry]
@[simp] theorem addWithCarry_V :
    (addWithCarry m s).flag .V = addOverflow (BitVec.ofNat 8 (rawSum (s.reg .A) m (s.flag .C))) (s.reg .A) m := by simp [addWithCarry]
@[simp] theorem addWithCarry_Z : (addWithCarry m s).flag .Z = (BitVec.ofNat 8 (rawSum (s.reg .A) m (s.flag .C)) == 0) := by
  simp [addWithCarry]
@[simp] theorem addWithCarry_N : (addWithCarry m s).flag .N = (BitVec.ofNat 8 (rawSum (s.reg .A) m (s.flag .C))).msb := by
  simp [addWithCarry]
@[simp] theorem addWithCarry_flag {f : Flag} (hc : f ≠ .C) (hv : f ≠ .V) (hz : f ≠ .Z) (hn : f ≠ .N) :
    (addWithCarry m s).flag f = s.flag f := by simp [addWithCarry, hc, hv, hz, hn]
@[simp] theorem addWithCarry_pc : (addWithCarry m s).pc = s.pc := rfl
@[simp] theorem addWithCarry_mem : (addWithCarry m s).mem = s.mem := rfl
@[simp] theorem addWithCarry_cycles : (addWithCarry m s).cycles = s.cycles := rfl
@[simp] theorem addWithCarry_cfg : (addWithCarry m s).cfg = s.cfg := rfl
@[simp] theorem addWithCarry_readByte : (addWithCarry m s).readByte a = s.readByte a := rfl

/-! ### Compare -/

@[simp] theorem compareWith_C (q : Byte) : (compareWith q m s).flag .C = decide (q.toNat ≥ m.toNat) := by
  simp [compareWith]
@[simp] theorem compareWith_Z (q : Byte) : (compareWith q m s).flag .Z = (q - m == 0) := by simp [compareWith]
@[simp] theorem compareWith_N (q : Byte) : (compareWith q m s).flag .N = (q - m).msb := by simp [compareWith]
@[simp] theorem compareWith_flag (q : Byte) {f : Flag} (hc : f ≠ .C) (hz : f ≠ .Z) (hn : f ≠ .N) :
    (compareWith q m s).flag f = s.flag f := by simp [compareWith, hc, hz, hn]
@[simp] theorem compareWith_reg (q : Byte) : (compareWith q m s).reg r = s.reg r := by simp [compareWith]
@[simp] theorem compareWith_pc (q : Byte) : (compareWith q m s).pc = s.pc := rfl
@[simp] theorem compareWith_mem (q : Byte) : (compareWith q m s).mem = s.mem := rfl
@[simp] theorem compareWith_cycles (q : Byte) : (compareWith q m s).cycles = s.cycles := rfl
@[simp] theorem compareWith_cfg (q : Byte) : (compareWith q m s).cfg = s.cfg := rfl
@[simp] theorem compareWith_readByte (q : Byte) : (compareWith q m s).readByte a = s.readByte a := rfl

end Sys2Proof.Machine
end

