-- ==== Sys2Proof/Laws/Ops.lean ====
section
/-! SUPPORT. What each shared operation over the stack and the vectors can do, said once (10_state.md R28 to R31, 60_exceptions.md R228). -/

namespace Sys2Proof.Machine

variable (s : State) (r : Reg) (v : Byte) (f : Flag) (a w : Word)

/-! ### Byte order (20_memory.md R46) -/

theorem mkWord_toNat (h l : Byte) : (mkWord h l).toNat = h.toNat * 256 + l.toNat := by
  have := h.isLt; have := l.isLt
  simp only [mkWord, BitVec.toNat_ofNat]; omega

theorem loByte_toNat : (loByte w).toNat = w.toNat % 256 := by simp [loByte]

theorem hiByte_toNat : (hiByte w).toNat = w.toNat / 256 := by
  have := w.isLt
  simp only [hiByte, BitVec.toNat_ofNat]; omega

@[simp] theorem loByte_mkWord (h l : Byte) : loByte (mkWord h l) = l := by
  apply BitVec.eq_of_toNat_eq
  rw [loByte_toNat, mkWord_toNat]; have := l.isLt; omega

@[simp] theorem hiByte_mkWord (h l : Byte) : hiByte (mkWord h l) = h := by
  apply BitVec.eq_of_toNat_eq
  rw [hiByte_toNat, mkWord_toNat]; have := l.isLt; omega

@[simp] theorem mkWord_hiByte_loByte : mkWord (hiByte w) (loByte w) = w := by
  apply BitVec.eq_of_toNat_eq
  rw [mkWord_toNat, hiByte_toNat, loByte_toNat]; omega

/-! ### The stack pointer -/

theorem stackAddr_toNat (q : Byte) : (stackAddr q).toNat = 256 + q.toNat := by
  simp [stackAddr, mkWord_toNat]

theorem stackAddr_inj {p q : Byte} : stackAddr p = stackAddr q ↔ p = q := by
  constructor
  · intro h
    have := congrArg BitVec.toNat h
    simp only [stackAddr_toNat] at this
    exact BitVec.eq_of_toNat_eq (by omega)
  · rintro rfl; rfl

/-! ### Push8 and Pull8 -/

@[simp] theorem push8_S : (push8 v s).reg .S = s.reg .S - 1 := by simp [push8]
@[simp] theorem push8_reg {r : Reg} (h : r ≠ .S) : (push8 v s).reg r = s.reg r := by simp [push8, h]
@[simp] theorem push8_p : (push8 v s).p = s.p := by simp [push8]
@[simp] theorem push8_pc : (push8 v s).pc = s.pc := by simp [push8]
@[simp] theorem push8_cycles : (push8 v s).cycles = s.cycles := by simp [push8]
@[simp] theorem push8_cfg : (push8 v s).cfg = s.cfg := by simp [push8]
@[simp] theorem push8_flag : (push8 v s).flag f = s.flag f := by simp [State.flag]
theorem push8_readByte : (push8 v s).readByte a = if a = stackAddr (s.reg .S) then v else s.readByte a := by
  simp [push8, readByte_writeByte]
theorem wf_push8 (h : Memory.wf s.mem = true) : Memory.wf (push8 v s).mem = true := by
  simpa [push8] using wf_writeByte s (stackAddr (s.reg .S)) v h

@[simp] theorem pull8_value : (pull8 s).1 = s.readByte (stackAddr (s.reg .S + 1)) := by simp [pull8]
@[simp] theorem pull8_S : (pull8 s).2.reg .S = s.reg .S + 1 := by simp [pull8]
@[simp] theorem pull8_reg {r : Reg} (h : r ≠ .S) : (pull8 s).2.reg r = s.reg r := by simp [pull8, h]
@[simp] theorem pull8_p : (pull8 s).2.p = s.p := by simp [pull8]
@[simp] theorem pull8_pc : (pull8 s).2.pc = s.pc := by simp [pull8]
@[simp] theorem pull8_mem : (pull8 s).2.mem = s.mem := by simp [pull8]
@[simp] theorem pull8_cycles : (pull8 s).2.cycles = s.cycles := by simp [pull8]
@[simp] theorem pull8_cfg : (pull8 s).2.cfg = s.cfg := by simp [pull8]
@[simp] theorem pull8_flag : (pull8 s).2.flag f = s.flag f := by simp [State.flag]
@[simp] theorem pull8_readByte : (pull8 s).2.readByte a = s.readByte a := by simp [State.readByte]

/-! ### Push16 and Pull16 -/

@[simp] theorem push16_S : (push16 w s).reg .S = s.reg .S - 2 := by
  simp [push16, BitVec.sub_sub]
@[simp] theorem push16_reg {r : Reg} (h : r ≠ .S) : (push16 w s).reg r = s.reg r := by simp [push16, h]
@[simp] theorem push16_p : (push16 w s).p = s.p := by simp [push16]
@[simp] theorem push16_pc : (push16 w s).pc = s.pc := by simp [push16]
@[simp] theorem push16_cycles : (push16 w s).cycles = s.cycles := by simp [push16]
@[simp] theorem push16_cfg : (push16 w s).cfg = s.cfg := by simp [push16]
@[simp] theorem push16_flag : (push16 w s).flag f = s.flag f := by simp [State.flag]
theorem push16_readByte : (push16 w s).readByte a =
    if a = stackAddr (s.reg .S - 1) then loByte w else if a = stackAddr (s.reg .S) then hiByte w else s.readByte a := by
  simp [push16, push8_readByte]
theorem wf_push16 (h : Memory.wf s.mem = true) : Memory.wf (push16 w s).mem = true := wf_push8 _ _ (wf_push8 _ _ h)

@[simp] theorem pull16_value :
    (pull16 s).1 = mkWord (s.readByte (stackAddr (s.reg .S + 2))) (s.readByte (stackAddr (s.reg .S + 1))) := by
  simp [pull16, BitVec.add_assoc]
@[simp] theorem pull16_S : (pull16 s).2.reg .S = s.reg .S + 2 := by simp [pull16, BitVec.add_assoc]
@[simp] theorem pull16_reg {r : Reg} (h : r ≠ .S) : (pull16 s).2.reg r = s.reg r := by simp [pull16, h]
@[simp] theorem pull16_p : (pull16 s).2.p = s.p := by simp [pull16]
@[simp] theorem pull16_pc : (pull16 s).2.pc = s.pc := by simp [pull16]
@[simp] theorem pull16_mem : (pull16 s).2.mem = s.mem := by simp [pull16]
@[simp] theorem pull16_cycles : (pull16 s).2.cycles = s.cycles := by simp [pull16]
@[simp] theorem pull16_cfg : (pull16 s).2.cfg = s.cfg := by simp [pull16]
@[simp] theorem pull16_flag : (pull16 s).2.flag f = s.flag f := by simp [State.flag]
@[simp] theorem pull16_readByte : (pull16 s).2.readByte a = s.readByte a := by simp [State.readByte]

/-! ### Entering a handler, and returning -/

variable (ret vec : Word) (pushed live : Byte)

@[simp] theorem enterVector_S : (enterVector ret pushed live vec s).reg .S = s.reg .S - 3 := by
  simp [enterVector, BitVec.sub_sub]
@[simp] theorem enterVector_reg {r : Reg} (h : r ≠ .S) : (enterVector ret pushed live vec s).reg r = s.reg r := by
  simp [enterVector, h]
@[simp] theorem enterVector_p : (enterVector ret pushed live vec s).p = live := by simp [enterVector]
@[simp] theorem enterVector_flag : (enterVector ret pushed live vec s).flag f = getFlag f live := by simp [State.flag]
@[simp] theorem enterVector_cycles : (enterVector ret pushed live vec s).cycles = s.cycles := by simp [enterVector]
@[simp] theorem enterVector_cfg : (enterVector ret pushed live vec s).cfg = s.cfg := by simp [enterVector]
theorem enterVector_readByte : (enterVector ret pushed live vec s).readByte a =
    if a = stackAddr (s.reg .S - 2) then pushed else if a = stackAddr (s.reg .S - 1) then loByte ret
    else if a = stackAddr (s.reg .S) then hiByte ret else s.readByte a := by
  simp [enterVector, push8_readByte, push16_readByte]
theorem wf_enterVector (h : Memory.wf s.mem = true) : Memory.wf (enterVector ret pushed live vec s).mem = true :=
  wf_push8 _ _ (wf_push16 _ _ h)

/-- The pushes do not reach a vector above the stack page: `PC` is the word that stood there before. -/
theorem enterVector_pc (h : ∀ q, stackAddr q ≠ vec ∧ stackAddr q ≠ vec + 1) :
    (enterVector ret pushed live vec s).pc = s.readWord vec := by
  have h0 := fun q => (h q).1.symm
  have h1 : ∀ q, vec + 1#16 ≠ stackAddr q := fun q => (h q).2.symm
  simp [enterVector, State.readWord, push8_readByte, push16_readByte, h0, h1]

theorem stackAddr_ne_of_page {w : Word} (h : hiByte w ≠ 0x01) (q : Byte) : stackAddr q ≠ w := by
  rintro rfl; simp [stackAddr] at h

@[simp] theorem enterVector_pc_irq : (enterVector ret pushed live irqVector s).pc = s.readWord irqVector :=
  enterVector_pc _ _ _ _ _ fun q => ⟨stackAddr_ne_of_page (by decide) q, stackAddr_ne_of_page (by decide) q⟩

@[simp] theorem enterVector_pc_nmi : (enterVector ret pushed live nmiVector s).pc = s.readWord nmiVector :=
  enterVector_pc _ _ _ _ _ fun q => ⟨stackAddr_ne_of_page (by decide) q, stackAddr_ne_of_page (by decide) q⟩

@[simp] theorem returnFromInterrupt_S : (returnFromInterrupt s).reg .S = s.reg .S + 3 := by
  simp [returnFromInterrupt, BitVec.add_assoc]
@[simp] theorem returnFromInterrupt_reg {r : Reg} (h : r ≠ .S) : (returnFromInterrupt s).reg r = s.reg r := by
  simp [returnFromInterrupt, h]
@[simp] theorem returnFromInterrupt_p : (returnFromInterrupt s).p = s.readByte (stackAddr (s.reg .S + 1)) := by
  simp [returnFromInterrupt]
@[simp] theorem returnFromInterrupt_pc : (returnFromInterrupt s).pc =
    mkWord (s.readByte (stackAddr (s.reg .S + 3))) (s.readByte (stackAddr (s.reg .S + 2))) := by
  simp [returnFromInterrupt, BitVec.add_assoc]
@[simp] theorem returnFromInterrupt_mem : (returnFromInterrupt s).mem = s.mem := by simp [returnFromInterrupt]
@[simp] theorem returnFromInterrupt_cycles : (returnFromInterrupt s).cycles = s.cycles := by simp [returnFromInterrupt]
@[simp] theorem returnFromInterrupt_cfg : (returnFromInterrupt s).cfg = s.cfg := by simp [returnFromInterrupt]
@[simp] theorem returnFromInterrupt_readByte : (returnFromInterrupt s).readByte a = s.readByte a := by
  simp [State.readByte]

end Sys2Proof.Machine
end

