-- ==== Sys2Proof/Laws/Engine.lean ====
section
/-! SUPPORT. What the engine around a handler does, said once (40_engine_addressing_flags.md R80 to R85). -/

namespace Sys2Proof.Machine

variable (op : Byte) (o : Operand) (h : Ctx → State → State) (s : State) (r : Reg) (f : Flag) (a : Word) (w : Word)

/-- The state a handler answers, before the cycles are accounted. -/
def handled (op : Byte) (o : Operand) (h : Ctx → State → State) (s : State) : State :=
  h (contextOf op o s) (s.setPc (nextPc op s))

@[simp] theorem perform_reg : (perform op o h s).reg r = (handled op o h s).reg r := by simp [perform, account, handled]
@[simp] theorem perform_p : (perform op o h s).p = (handled op o h s).p := by simp [perform, account, handled]
@[simp] theorem perform_pc : (perform op o h s).pc = (handled op o h s).pc := by simp [perform, account, handled]
@[simp] theorem perform_mem : (perform op o h s).mem = (handled op o h s).mem := by simp [perform, account, handled]
@[simp] theorem perform_cfg : (perform op o h s).cfg = (handled op o h s).cfg := by simp [perform, account, handled]
@[simp] theorem perform_flag : (perform op o h s).flag f = (handled op o h s).flag f := by simp [State.flag]
@[simp] theorem perform_readByte : (perform op o h s).readByte a = (handled op o h s).readByte a := by
  simp [State.readByte]
@[simp] theorem perform_cycles : (perform op o h s).cycles = (handled op o h s).cycles +
    (baseCycles (entryOf op) + pagePenalty (entryOf op) (handled op o h s).pc (resolve o s)) := by
  simp [perform, account, handled]

@[simp] theorem contextOf_ea : (contextOf op o s).ea = resolve o s := rfl
@[simp] theorem contextOf_pc0 : (contextOf op o s).pc0 = s.pc := rfl
@[simp] theorem contextOf_operand : (contextOf op o s).operand = o := rfl

/-- A handler reads its operand as it was when the step began (R81). -/
@[simp] theorem contextOf_read : (contextOf op o s).read (s.setPc w) = operandByte o (resolve o s) s := by
  cases o <;> simp [Ctx.read, operandByte]

/-! ### Writing a result back -/

theorem writeBack_accumulator (c : Ctx) (v : Byte) (hc : c.operand = .accumulator) :
    c.writeBack v s = s.setReg .A v := by unfold Ctx.writeBack; rw [hc]

theorem writeBack_memory (c : Ctx) (v : Byte) (hc : c.operand ≠ .accumulator) :
    c.writeBack v s = s.writeByte c.ea v := by
  unfold Ctx.writeBack
  cases ho : c.operand <;> first | rfl | exact absurd ho hc

@[simp] theorem writeBack_flag (c : Ctx) (v : Byte) : (c.writeBack v s).flag f = s.flag f := by
  by_cases h : c.operand = .accumulator <;> simp [writeBack_accumulator, writeBack_memory, h]

@[simp] theorem writeBack_reg (c : Ctx) (v : Byte) {r : Reg} (hr : r ≠ .A) : (c.writeBack v s).reg r = s.reg r := by
  by_cases h : c.operand = .accumulator <;> simp [writeBack_accumulator, writeBack_memory, h, hr]

@[simp] theorem writeBack_pc (c : Ctx) (v : Byte) : (c.writeBack v s).pc = s.pc := by
  by_cases h : c.operand = .accumulator <;> simp [writeBack_accumulator, writeBack_memory, h]

@[simp] theorem writeBack_cfg (c : Ctx) (v : Byte) : (c.writeBack v s).cfg = s.cfg := by
  by_cases h : c.operand = .accumulator <;> simp [writeBack_accumulator, writeBack_memory, h]

@[simp] theorem writeBack_cycles (c : Ctx) (v : Byte) : (c.writeBack v s).cycles = s.cycles := by
  by_cases h : c.operand = .accumulator <;> simp [writeBack_accumulator, writeBack_memory, h]

theorem wf_writeBack (c : Ctx) (v : Byte) (hw : Memory.wf s.mem = true) : Memory.wf (c.writeBack v s).mem = true := by
  by_cases h : c.operand = .accumulator
  · simpa [writeBack_accumulator, h] using hw
  · rw [writeBack_memory _ _ _ h]; exact wf_writeByte _ _ _ hw

/-! ### The branches (44_branch_jump.md R170) -/

variable (cond : Bool) (c : Ctx)

@[simp] theorem branchIf_pc : (branchIf cond c s).pc = if cond = true then c.ea + 2 else s.pc := by cases cond <;> rfl
@[simp] theorem branchIf_reg : (branchIf cond c s).reg r = s.reg r := by cases cond <;> simp [branchIf]
@[simp] theorem branchIf_p : (branchIf cond c s).p = s.p := by cases cond <;> rfl
@[simp] theorem branchIf_flag : (branchIf cond c s).flag f = s.flag f := by cases cond <;> rfl
@[simp] theorem branchIf_mem : (branchIf cond c s).mem = s.mem := by cases cond <;> rfl
@[simp] theorem branchIf_readByte : (branchIf cond c s).readByte a = s.readByte a := by cases cond <;> rfl
@[simp] theorem branchIf_cfg : (branchIf cond c s).cfg = s.cfg := by cases cond <;> rfl
@[simp] theorem branchIf_cycles : (branchIf cond c s).cycles = s.cycles := by cases cond <;> rfl

/-! ### Operands in memory -/

theorem operandByte_memory {o : Operand} (ea : Word) (ha : o ≠ .accumulator) (hi : ∀ b, o ≠ .immediate b) :
    operandByte o ea s = s.readByte ea := by
  cases o <;> first | rfl | exact absurd rfl ha | exact absurd rfl (hi _)

end Sys2Proof.Machine
end

