-- ==== Sys2Proof/Laws/Frames.lean ====
section
/-! SUPPORT. Small lemmas about the terms that claims are made in (Safety.lean). -/

namespace Sys2Proof.Machine

/-- An instruction completes with whatever its handler leaves (40_engine_addressing_flags.md R80). -/
theorem completes_of_perform {i : Instr} {s : State} {post : State → Prop}
    (h : post (perform i.opcode i.operand (handlerOf i.handler i.opcode) s)) : Completes i s post :=
  ⟨_, exec_eq i s, h⟩

/-- Z and N as `SetZN` leaves them (R100), in numbers. -/
theorem hasZN_of {v : Byte} {t : State} (hz : t.flag .Z = (v == 0)) (hn : t.flag .N = v.msb) : HasZN v t := by
  refine ⟨?_, ?_⟩
  · rw [hz, Bool.eq_iff_iff, beq_iff_eq, decide_eq_true_iff]
    exact ⟨fun h => by simp [h], fun h => BitVec.eq_of_toNat_eq (by simpa using h)⟩
  · rw [hn, BitVec.msb_eq_decide]

/-- The engine's `next` is the instruction's (R82). -/
theorem nextPc_eq_seqPc (i : Instr) (s : State) : nextPc i.opcode s = seqPc i s := rfl

end Sys2Proof.Machine
end

