-- ==== Sys2Proof/Laws/HostPort.lean ====
section
/-! SUPPORT. What the transactions of the host's port leave alone, said once (70_reset_and_hazards.md R258 to R265). -/

namespace Sys2Proof.Machine

variable (bytes : List Byte) (start : Word) (s : State)

@[simp] theorem writeBytes_p : (writeBytes start bytes s).p = s.p := by
  induction bytes generalizing start s with
  | nil => rfl
  | cons v rest ih => exact ih (start + 1) (s.writeByte start v)

@[simp] theorem writeBytes_cycles : (writeBytes start bytes s).cycles = s.cycles := by
  induction bytes generalizing start s with
  | nil => rfl
  | cons v rest ih => exact ih (start + 1) (s.writeByte start v)

@[simp] theorem writeBytes_cfg : (writeBytes start bytes s).cfg = s.cfg := by
  induction bytes generalizing start s with
  | nil => rfl
  | cons v rest ih => exact ih (start + 1) (s.writeByte start v)

/-- Writing a range keeps the canonical form. -/
theorem wf_writeBytes (h : Memory.wf s.mem = true) : Memory.wf (writeBytes start bytes s).mem = true := by
  induction bytes generalizing start s with
  | nil => exact h
  | cons v rest ih => exact ih (start + 1) (s.writeByte start v) (wf_writeByte s start v h)

@[simp] theorem interruptEntry_S (vec : Word) : (interruptEntry vec s).reg .S = s.reg .S - 3 := by simp [interruptEntry]
@[simp] theorem interruptEntry_reg (vec : Word) {r : Reg} (h : r ≠ .S) : (interruptEntry vec s).reg r = s.reg r := by
  simp [interruptEntry, h]
@[simp] theorem interruptEntry_p (vec : Word) : (interruptEntry vec s).p = setFlag .I true s.p := by simp [interruptEntry]
@[simp] theorem interruptEntry_cycles (vec : Word) : (interruptEntry vec s).cycles = s.cycles + 7 := by
  simp [interruptEntry]
@[simp] theorem interruptEntry_cfg (vec : Word) : (interruptEntry vec s).cfg = s.cfg := by simp [interruptEntry]

/-- Entering an interrupt keeps the canonical form. -/
theorem wf_interruptEntry (vec : Word) (h : Memory.wf s.mem = true) : Memory.wf (interruptEntry vec s).mem = true := by
  simpa [interruptEntry] using wf_enterVector s s.pc vec (pushedFlags s.cfg.intPushedB s.p) (setFlag .I true s.p) h

end Sys2Proof.Machine
end

