-- ==== Sys2Proof/Laws/PerInstr.lean ====
section
/-! SUPPORT. The per-instruction family `TableRow`: the operand an instruction carries has the mode of its table entry, its encoding has
the entry's size, and the entry is well formed (30_encoding.md R60, R63, R64). -/

namespace Sys2Proof.Laws.TableRow

/-- The instruction agrees with its table entry. -/
def Statement (i : Instr) : Prop :=
  i.operand.mode = i.entry.mode ∧ (encode i).length = i.entry.size ∧ i.entry.wf = true ∧ i.wf = true

/-- All of it follows from the row's opcode and operand, and their modes agreeing. -/
theorem of_row {i : Instr} (op : Byte) (o : Operand) (h : i.coded = (op, o)) (hm : o.mode = (entryOf op).mode) :
    Statement i := by
  have hop : i.opcode = op := congrArg Prod.fst h
  have ho : i.operand = o := congrArg Prod.snd h
  refine ⟨?_, ?_, ?_, rfl⟩
  · rw [Instr.entry, hop, ho, hm]
  · rw [encode_length, ho, Instr.entry, hop, hm, entryOf_size]
  · exact entryOf_wf _

theorem brk : Statement (.brk) := of_row 0x00 .implied rfl rfl
theorem oraIzx (b : Byte) : Statement (.oraIzx b) := of_row 0x01 (.indirectX b) rfl rfl
theorem kil02 : Statement (.kil02) := of_row 0x02 .implied rfl rfl
theorem sloIzx03 (b : Byte) : Statement (.sloIzx03 b) := of_row 0x03 (.indirectX b) rfl rfl
theorem nopZp04 (b : Byte) : Statement (.nopZp04 b) := of_row 0x04 (.zeroPage b) rfl rfl
theorem oraZp (b : Byte) : Statement (.oraZp b) := of_row 0x05 (.zeroPage b) rfl rfl
theorem aslZp (b : Byte) : Statement (.aslZp b) := of_row 0x06 (.zeroPage b) rfl rfl
theorem sloZp07 (b : Byte) : Statement (.sloZp07 b) := of_row 0x07 (.zeroPage b) rfl rfl
theorem php : Statement (.php) := of_row 0x08 .implied rfl rfl
theorem oraImm (b : Byte) : Statement (.oraImm b) := of_row 0x09 (.immediate b) rfl rfl
theorem aslAcc : Statement (.aslAcc) := of_row 0x0A .accumulator rfl rfl
theorem ancImm0B (b : Byte) : Statement (.ancImm0B b) := of_row 0x0B (.immediate b) rfl rfl
theorem nopAbs0C (w : Word) : Statement (.nopAbs0C w) := of_row 0x0C (.absolute w) rfl rfl
theorem oraAbs (w : Word) : Statement (.oraAbs w) := of_row 0x0D (.absolute w) rfl rfl
theorem aslAbs (w : Word) : Statement (.aslAbs w) := of_row 0x0E (.absolute w) rfl rfl
theorem sloAbs0F (w : Word) : Statement (.sloAbs0F w) := of_row 0x0F (.absolute w) rfl rfl
theorem bpl (b : Byte) : Statement (.bpl b) := of_row 0x10 (.relative b) rfl rfl
theorem oraIzy (b : Byte) : Statement (.oraIzy b) := of_row 0x11 (.indirectY b) rfl rfl
theorem kil12 : Statement (.kil12) := of_row 0x12 .implied rfl rfl
theorem sloIzy13 (b : Byte) : Statement (.sloIzy13 b) := of_row 0x13 (.indirectY b) rfl rfl
theorem nopZpx14 (b : Byte) : Statement (.nopZpx14 b) := of_row 0x14 (.zeroPageX b) rfl rfl
theorem oraZpx (b : Byte) : Statement (.oraZpx b) := of_row 0x15 (.zeroPageX b) rfl rfl
theorem aslZpx (b : Byte) : Statement (.aslZpx b) := of_row 0x16 (.zeroPageX b) rfl rfl
theorem sloZpx17 (b : Byte) : Statement (.sloZpx17 b) := of_row 0x17 (.zeroPageX b) rfl rfl
theorem clc : Statement (.clc) := of_row 0x18 .implied rfl rfl
theorem oraAby (w : Word) : Statement (.oraAby w) := of_row 0x19 (.absoluteY w) rfl rfl
theorem nopImp1A : Statement (.nopImp1A) := of_row 0x1A .implied rfl rfl
theorem sloAby1B (w : Word) : Statement (.sloAby1B w) := of_row 0x1B (.absoluteY w) rfl rfl
theorem nopAbx1C (w : Word) : Statement (.nopAbx1C w) := of_row 0x1C (.absoluteX w) rfl rfl
theorem oraAbx (w : Word) : Statement (.oraAbx w) := of_row 0x1D (.absoluteX w) rfl rfl
theorem aslAbx (w : Word) : Statement (.aslAbx w) := of_row 0x1E (.absoluteX w) rfl rfl
theorem sloAbx1F (w : Word) : Statement (.sloAbx1F w) := of_row 0x1F (.absoluteX w) rfl rfl
theorem jsrAbs (w : Word) : Statement (.jsrAbs w) := of_row 0x20 (.absolute w) rfl rfl
theorem andIzx (b : Byte) : Statement (.andIzx b) := of_row 0x21 (.indirectX b) rfl rfl
theorem kil22 : Statement (.kil22) := of_row 0x22 .implied rfl rfl
theorem rlaIzx23 (b : Byte) : Statement (.rlaIzx23 b) := of_row 0x23 (.indirectX b) rfl rfl
theorem bitZp (b : Byte) : Statement (.bitZp b) := of_row 0x24 (.zeroPage b) rfl rfl
theorem andZp (b : Byte) : Statement (.andZp b) := of_row 0x25 (.zeroPage b) rfl rfl
theorem rolZp (b : Byte) : Statement (.rolZp b) := of_row 0x26 (.zeroPage b) rfl rfl
theorem rlaZp27 (b : Byte) : Statement (.rlaZp27 b) := of_row 0x27 (.zeroPage b) rfl rfl
theorem plp : Statement (.plp) := of_row 0x28 .implied rfl rfl
theorem andImm (b : Byte) : Statement (.andImm b) := of_row 0x29 (.immediate b) rfl rfl
theorem rolAcc : Statement (.rolAcc) := of_row 0x2A .accumulator rfl rfl
theorem ancImm2B (b : Byte) : Statement (.ancImm2B b) := of_row 0x2B (.immediate b) rfl rfl
theorem bitAbs (w : Word) : Statement (.bitAbs w) := of_row 0x2C (.absolute w) rfl rfl
theorem andAbs (w : Word) : Statement (.andAbs w) := of_row 0x2D (.absolute w) rfl rfl
theorem rolAbs (w : Word) : Statement (.rolAbs w) := of_row 0x2E (.absolute w) rfl rfl
theorem rlaAbs2F (w : Word) : Statement (.rlaAbs2F w) := of_row 0x2F (.absolute w) rfl rfl
theorem bmi (b : Byte) : Statement (.bmi b) := of_row 0x30 (.relative b) rfl rfl
theorem andIzy (b : Byte) : Statement (.andIzy b) := of_row 0x31 (.indirectY b) rfl rfl
theorem kil32 : Statement (.kil32) := of_row 0x32 .implied rfl rfl
theorem rlaIzy33 (b : Byte) : Statement (.rlaIzy33 b) := of_row 0x33 (.indirectY b) rfl rfl
theorem nopZpx34 (b : Byte) : Statement (.nopZpx34 b) := of_row 0x34 (.zeroPageX b) rfl rfl
theorem andZpx (b : Byte) : Statement (.andZpx b) := of_row 0x35 (.zeroPageX b) rfl rfl
theorem rolZpx (b : Byte) : Statement (.rolZpx b) := of_row 0x36 (.zeroPageX b) rfl rfl
theorem rlaZpx37 (b : Byte) : Statement (.rlaZpx37 b) := of_row 0x37 (.zeroPageX b) rfl rfl
theorem sec : Statement (.sec) := of_row 0x38 .implied rfl rfl
theorem andAby (w : Word) : Statement (.andAby w) := of_row 0x39 (.absoluteY w) rfl rfl
theorem nopImp3A : Statement (.nopImp3A) := of_row 0x3A .implied rfl rfl
theorem rlaAby3B (w : Word) : Statement (.rlaAby3B w) := of_row 0x3B (.absoluteY w) rfl rfl
theorem nopAbx3C (w : Word) : Statement (.nopAbx3C w) := of_row 0x3C (.absoluteX w) rfl rfl
theorem andAbx (w : Word) : Statement (.andAbx w) := of_row 0x3D (.absoluteX w) rfl rfl
theorem rolAbx (w : Word) : Statement (.rolAbx w) := of_row 0x3E (.absoluteX w) rfl rfl
theorem rlaAbx3F (w : Word) : Statement (.rlaAbx3F w) := of_row 0x3F (.absoluteX w) rfl rfl
theorem rti : Statement (.rti) := of_row 0x40 .implied rfl rfl
theorem eorIzx (b : Byte) : Statement (.eorIzx b) := of_row 0x41 (.indirectX b) rfl rfl
theorem kil42 : Statement (.kil42) := of_row 0x42 .implied rfl rfl
theorem sreIzx43 (b : Byte) : Statement (.sreIzx43 b) := of_row 0x43 (.indirectX b) rfl rfl
theorem nopZp44 (b : Byte) : Statement (.nopZp44 b) := of_row 0x44 (.zeroPage b) rfl rfl
theorem eorZp (b : Byte) : Statement (.eorZp b) := of_row 0x45 (.zeroPage b) rfl rfl
theorem lsrZp (b : Byte) : Statement (.lsrZp b) := of_row 0x46 (.zeroPage b) rfl rfl
theorem sreZp47 (b : Byte) : Statement (.sreZp47 b) := of_row 0x47 (.zeroPage b) rfl rfl
theorem pha : Statement (.pha) := of_row 0x48 .implied rfl rfl
theorem eorImm (b : Byte) : Statement (.eorImm b) := of_row 0x49 (.immediate b) rfl rfl
theorem lsrAcc : Statement (.lsrAcc) := of_row 0x4A .accumulator rfl rfl
theorem alrImm4B (b : Byte) : Statement (.alrImm4B b) := of_row 0x4B (.immediate b) rfl rfl
theorem jmpAbs (w : Word) : Statement (.jmpAbs w) := of_row 0x4C (.absolute w) rfl rfl
theorem eorAbs (w : Word) : Statement (.eorAbs w) := of_row 0x4D (.absolute w) rfl rfl
theorem lsrAbs (w : Word) : Statement (.lsrAbs w) := of_row 0x4E (.absolute w) rfl rfl
theorem sreAbs4F (w : Word) : Statement (.sreAbs4F w) := of_row 0x4F (.absolute w) rfl rfl
theorem bvc (b : Byte) : Statement (.bvc b) := of_row 0x50 (.relative b) rfl rfl
theorem eorIzy (b : Byte) : Statement (.eorIzy b) := of_row 0x51 (.indirectY b) rfl rfl
theorem kil52 : Statement (.kil52) := of_row 0x52 .implied rfl rfl
theorem sreIzy53 (b : Byte) : Statement (.sreIzy53 b) := of_row 0x53 (.indirectY b) rfl rfl
theorem nopZpx54 (b : Byte) : Statement (.nopZpx54 b) := of_row 0x54 (.zeroPageX b) rfl rfl
theorem eorZpx (b : Byte) : Statement (.eorZpx b) := of_row 0x55 (.zeroPageX b) rfl rfl
theorem lsrZpx (b : Byte) : Statement (.lsrZpx b) := of_row 0x56 (.zeroPageX b) rfl rfl
theorem sreZpx57 (b : Byte) : Statement (.sreZpx57 b) := of_row 0x57 (.zeroPageX b) rfl rfl
theorem cli : Statement (.cli) := of_row 0x58 .implied rfl rfl
theorem eorAby (w : Word) : Statement (.eorAby w) := of_row 0x59 (.absoluteY w) rfl rfl
theorem nopImp5A : Statement (.nopImp5A) := of_row 0x5A .implied rfl rfl
theorem sreAby5B (w : Word) : Statement (.sreAby5B w) := of_row 0x5B (.absoluteY w) rfl rfl
theorem nopAbx5C (w : Word) : Statement (.nopAbx5C w) := of_row 0x5C (.absoluteX w) rfl rfl
theorem eorAbx (w : Word) : Statement (.eorAbx w) := of_row 0x5D (.absoluteX w) rfl rfl
theorem lsrAbx (w : Word) : Statement (.lsrAbx w) := of_row 0x5E (.absoluteX w) rfl rfl
theorem sreAbx5F (w : Word) : Statement (.sreAbx5F w) := of_row 0x5F (.absoluteX w) rfl rfl
theorem rts : Statement (.rts) := of_row 0x60 .implied rfl rfl
theorem adcIzx (b : Byte) : Statement (.adcIzx b) := of_row 0x61 (.indirectX b) rfl rfl
theorem kil62 : Statement (.kil62) := of_row 0x62 .implied rfl rfl
theorem rraIzx63 (b : Byte) : Statement (.rraIzx63 b) := of_row 0x63 (.indirectX b) rfl rfl
theorem nopZp64 (b : Byte) : Statement (.nopZp64 b) := of_row 0x64 (.zeroPage b) rfl rfl
theorem adcZp (b : Byte) : Statement (.adcZp b) := of_row 0x65 (.zeroPage b) rfl rfl
theorem rorZp (b : Byte) : Statement (.rorZp b) := of_row 0x66 (.zeroPage b) rfl rfl
theorem rraZp67 (b : Byte) : Statement (.rraZp67 b) := of_row 0x67 (.zeroPage b) rfl rfl
theorem pla : Statement (.pla) := of_row 0x68 .implied rfl rfl
theorem adcImm (b : Byte) : Statement (.adcImm b) := of_row 0x69 (.immediate b) rfl rfl
theorem rorAcc : Statement (.rorAcc) := of_row 0x6A .accumulator rfl rfl
theorem arrImm6B (b : Byte) : Statement (.arrImm6B b) := of_row 0x6B (.immediate b) rfl rfl
theorem jmpInd (w : Word) : Statement (.jmpInd w) := of_row 0x6C (.indirect w) rfl rfl
theorem adcAbs (w : Word) : Statement (.adcAbs w) := of_row 0x6D (.absolute w) rfl rfl
theorem rorAbs (w : Word) : Statement (.rorAbs w) := of_row 0x6E (.absolute w) rfl rfl
theorem rraAbs6F (w : Word) : Statement (.rraAbs6F w) := of_row 0x6F (.absolute w) rfl rfl
theorem bvs (b : Byte) : Statement (.bvs b) := of_row 0x70 (.relative b) rfl rfl
theorem adcIzy (b : Byte) : Statement (.adcIzy b) := of_row 0x71 (.indirectY b) rfl rfl
theorem kil72 : Statement (.kil72) := of_row 0x72 .implied rfl rfl
theorem rraIzy73 (b : Byte) : Statement (.rraIzy73 b) := of_row 0x73 (.indirectY b) rfl rfl
theorem nopZpx74 (b : Byte) : Statement (.nopZpx74 b) := of_row 0x74 (.zeroPageX b) rfl rfl
theorem adcZpx (b : Byte) : Statement (.adcZpx b) := of_row 0x75 (.zeroPageX b) rfl rfl
theorem rorZpx (b : Byte) : Statement (.rorZpx b) := of_row 0x76 (.zeroPageX b) rfl rfl
theorem rraZpx77 (b : Byte) : Statement (.rraZpx77 b) := of_row 0x77 (.zeroPageX b) rfl rfl
theorem sei : Statement (.sei) := of_row 0x78 .implied rfl rfl
theorem adcAby (w : Word) : Statement (.adcAby w) := of_row 0x79 (.absoluteY w) rfl rfl
theorem nopImp7A : Statement (.nopImp7A) := of_row 0x7A .implied rfl rfl
theorem rraAby7B (w : Word) : Statement (.rraAby7B w) := of_row 0x7B (.absoluteY w) rfl rfl
theorem nopAbx7C (w : Word) : Statement (.nopAbx7C w) := of_row 0x7C (.absoluteX w) rfl rfl
theorem adcAbx (w : Word) : Statement (.adcAbx w) := of_row 0x7D (.absoluteX w) rfl rfl
theorem rorAbx (w : Word) : Statement (.rorAbx w) := of_row 0x7E (.absoluteX w) rfl rfl
theorem rraAbx7F (w : Word) : Statement (.rraAbx7F w) := of_row 0x7F (.absoluteX w) rfl rfl
theorem nopImm80 (b : Byte) : Statement (.nopImm80 b) := of_row 0x80 (.immediate b) rfl rfl
theorem staIzx (b : Byte) : Statement (.staIzx b) := of_row 0x81 (.indirectX b) rfl rfl
theorem nopImm82 (b : Byte) : Statement (.nopImm82 b) := of_row 0x82 (.immediate b) rfl rfl
theorem saxIzx83 (b : Byte) : Statement (.saxIzx83 b) := of_row 0x83 (.indirectX b) rfl rfl
theorem styZp (b : Byte) : Statement (.styZp b) := of_row 0x84 (.zeroPage b) rfl rfl
theorem staZp (b : Byte) : Statement (.staZp b) := of_row 0x85 (.zeroPage b) rfl rfl
theorem stxZp (b : Byte) : Statement (.stxZp b) := of_row 0x86 (.zeroPage b) rfl rfl
theorem saxZp87 (b : Byte) : Statement (.saxZp87 b) := of_row 0x87 (.zeroPage b) rfl rfl
theorem dey : Statement (.dey) := of_row 0x88 .implied rfl rfl
theorem nopImm89 (b : Byte) : Statement (.nopImm89 b) := of_row 0x89 (.immediate b) rfl rfl
theorem txa : Statement (.txa) := of_row 0x8A .implied rfl rfl
theorem xaaImm8B (b : Byte) : Statement (.xaaImm8B b) := of_row 0x8B (.immediate b) rfl rfl
theorem styAbs (w : Word) : Statement (.styAbs w) := of_row 0x8C (.absolute w) rfl rfl
theorem staAbs (w : Word) : Statement (.staAbs w) := of_row 0x8D (.absolute w) rfl rfl
theorem stxAbs (w : Word) : Statement (.stxAbs w) := of_row 0x8E (.absolute w) rfl rfl
theorem saxAbs8F (w : Word) : Statement (.saxAbs8F w) := of_row 0x8F (.absolute w) rfl rfl
theorem bcc (b : Byte) : Statement (.bcc b) := of_row 0x90 (.relative b) rfl rfl
theorem staIzy (b : Byte) : Statement (.staIzy b) := of_row 0x91 (.indirectY b) rfl rfl
theorem kil92 : Statement (.kil92) := of_row 0x92 .implied rfl rfl
theorem ahxIzy93 (b : Byte) : Statement (.ahxIzy93 b) := of_row 0x93 (.indirectY b) rfl rfl
theorem styZpx (b : Byte) : Statement (.styZpx b) := of_row 0x94 (.zeroPageX b) rfl rfl
theorem staZpx (b : Byte) : Statement (.staZpx b) := of_row 0x95 (.zeroPageX b) rfl rfl
theorem stxZpy (b : Byte) : Statement (.stxZpy b) := of_row 0x96 (.zeroPageY b) rfl rfl
theorem saxZpy97 (b : Byte) : Statement (.saxZpy97 b) := of_row 0x97 (.zeroPageY b) rfl rfl
theorem tya : Statement (.tya) := of_row 0x98 .implied rfl rfl
theorem staAby (w : Word) : Statement (.staAby w) := of_row 0x99 (.absoluteY w) rfl rfl
theorem txs : Statement (.txs) := of_row 0x9A .implied rfl rfl
theorem tasAby9B (w : Word) : Statement (.tasAby9B w) := of_row 0x9B (.absoluteY w) rfl rfl
theorem shyAbx9C (w : Word) : Statement (.shyAbx9C w) := of_row 0x9C (.absoluteX w) rfl rfl
theorem staAbx (w : Word) : Statement (.staAbx w) := of_row 0x9D (.absoluteX w) rfl rfl
theorem shxAby9E (w : Word) : Statement (.shxAby9E w) := of_row 0x9E (.absoluteY w) rfl rfl
theorem ahxAby9F (w : Word) : Statement (.ahxAby9F w) := of_row 0x9F (.absoluteY w) rfl rfl
theorem ldyImm (b : Byte) : Statement (.ldyImm b) := of_row 0xA0 (.immediate b) rfl rfl
theorem ldaIzx (b : Byte) : Statement (.ldaIzx b) := of_row 0xA1 (.indirectX b) rfl rfl
theorem ldxImm (b : Byte) : Statement (.ldxImm b) := of_row 0xA2 (.immediate b) rfl rfl
theorem laxIzxA3 (b : Byte) : Statement (.laxIzxA3 b) := of_row 0xA3 (.indirectX b) rfl rfl
theorem ldyZp (b : Byte) : Statement (.ldyZp b) := of_row 0xA4 (.zeroPage b) rfl rfl
theorem ldaZp (b : Byte) : Statement (.ldaZp b) := of_row 0xA5 (.zeroPage b) rfl rfl
theorem ldxZp (b : Byte) : Statement (.ldxZp b) := of_row 0xA6 (.zeroPage b) rfl rfl
theorem laxZpA7 (b : Byte) : Statement (.laxZpA7 b) := of_row 0xA7 (.zeroPage b) rfl rfl
theorem tay : Statement (.tay) := of_row 0xA8 .implied rfl rfl
theorem ldaImm (b : Byte) : Statement (.ldaImm b) := of_row 0xA9 (.immediate b) rfl rfl
theorem tax : Statement (.tax) := of_row 0xAA .implied rfl rfl
theorem laxImmAB (b : Byte) : Statement (.laxImmAB b) := of_row 0xAB (.immediate b) rfl rfl
theorem ldyAbs (w : Word) : Statement (.ldyAbs w) := of_row 0xAC (.absolute w) rfl rfl
theorem ldaAbs (w : Word) : Statement (.ldaAbs w) := of_row 0xAD (.absolute w) rfl rfl
theorem ldxAbs (w : Word) : Statement (.ldxAbs w) := of_row 0xAE (.absolute w) rfl rfl
theorem laxAbsAF (w : Word) : Statement (.laxAbsAF w) := of_row 0xAF (.absolute w) rfl rfl
theorem bcs (b : Byte) : Statement (.bcs b) := of_row 0xB0 (.relative b) rfl rfl
theorem ldaIzy (b : Byte) : Statement (.ldaIzy b) := of_row 0xB1 (.indirectY b) rfl rfl
theorem kilB2 : Statement (.kilB2) := of_row 0xB2 .implied rfl rfl
theorem laxIzyB3 (b : Byte) : Statement (.laxIzyB3 b) := of_row 0xB3 (.indirectY b) rfl rfl
theorem ldyZpx (b : Byte) : Statement (.ldyZpx b) := of_row 0xB4 (.zeroPageX b) rfl rfl
theorem ldaZpx (b : Byte) : Statement (.ldaZpx b) := of_row 0xB5 (.zeroPageX b) rfl rfl
theorem ldxZpy (b : Byte) : Statement (.ldxZpy b) := of_row 0xB6 (.zeroPageY b) rfl rfl
theorem laxZpyB7 (b : Byte) : Statement (.laxZpyB7 b) := of_row 0xB7 (.zeroPageY b) rfl rfl
theorem clv : Statement (.clv) := of_row 0xB8 .implied rfl rfl
theorem ldaAby (w : Word) : Statement (.ldaAby w) := of_row 0xB9 (.absoluteY w) rfl rfl
theorem tsx : Statement (.tsx) := of_row 0xBA .implied rfl rfl
theorem lasAbyBB (w : Word) : Statement (.lasAbyBB w) := of_row 0xBB (.absoluteY w) rfl rfl
theorem ldyAbx (w : Word) : Statement (.ldyAbx w) := of_row 0xBC (.absoluteX w) rfl rfl
theorem ldaAbx (w : Word) : Statement (.ldaAbx w) := of_row 0xBD (.absoluteX w) rfl rfl
theorem ldxAby (w : Word) : Statement (.ldxAby w) := of_row 0xBE (.absoluteY w) rfl rfl
theorem laxAbyBF (w : Word) : Statement (.laxAbyBF w) := of_row 0xBF (.absoluteY w) rfl rfl
theorem cpyImm (b : Byte) : Statement (.cpyImm b) := of_row 0xC0 (.immediate b) rfl rfl
theorem cmpIzx (b : Byte) : Statement (.cmpIzx b) := of_row 0xC1 (.indirectX b) rfl rfl
theorem nopImmC2 (b : Byte) : Statement (.nopImmC2 b) := of_row 0xC2 (.immediate b) rfl rfl
theorem dcpIzxC3 (b : Byte) : Statement (.dcpIzxC3 b) := of_row 0xC3 (.indirectX b) rfl rfl
theorem cpyZp (b : Byte) : Statement (.cpyZp b) := of_row 0xC4 (.zeroPage b) rfl rfl
theorem cmpZp (b : Byte) : Statement (.cmpZp b) := of_row 0xC5 (.zeroPage b) rfl rfl
theorem decZp (b : Byte) : Statement (.decZp b) := of_row 0xC6 (.zeroPage b) rfl rfl
theorem dcpZpC7 (b : Byte) : Statement (.dcpZpC7 b) := of_row 0xC7 (.zeroPage b) rfl rfl
theorem iny : Statement (.iny) := of_row 0xC8 .implied rfl rfl
theorem cmpImm (b : Byte) : Statement (.cmpImm b) := of_row 0xC9 (.immediate b) rfl rfl
theorem dex : Statement (.dex) := of_row 0xCA .implied rfl rfl
theorem axsImmCB (b : Byte) : Statement (.axsImmCB b) := of_row 0xCB (.immediate b) rfl rfl
theorem cpyAbs (w : Word) : Statement (.cpyAbs w) := of_row 0xCC (.absolute w) rfl rfl
theorem cmpAbs (w : Word) : Statement (.cmpAbs w) := of_row 0xCD (.absolute w) rfl rfl
theorem decAbs (w : Word) : Statement (.decAbs w) := of_row 0xCE (.absolute w) rfl rfl
theorem dcpAbsCF (w : Word) : Statement (.dcpAbsCF w) := of_row 0xCF (.absolute w) rfl rfl
theorem bne (b : Byte) : Statement (.bne b) := of_row 0xD0 (.relative b) rfl rfl
theorem cmpIzy (b : Byte) : Statement (.cmpIzy b) := of_row 0xD1 (.indirectY b) rfl rfl
theorem kilD2 : Statement (.kilD2) := of_row 0xD2 .implied rfl rfl
theorem dcpIzyD3 (b : Byte) : Statement (.dcpIzyD3 b) := of_row 0xD3 (.indirectY b) rfl rfl
theorem nopZpxD4 (b : Byte) : Statement (.nopZpxD4 b) := of_row 0xD4 (.zeroPageX b) rfl rfl
theorem cmpZpx (b : Byte) : Statement (.cmpZpx b) := of_row 0xD5 (.zeroPageX b) rfl rfl
theorem decZpx (b : Byte) : Statement (.decZpx b) := of_row 0xD6 (.zeroPageX b) rfl rfl
theorem dcpZpxD7 (b : Byte) : Statement (.dcpZpxD7 b) := of_row 0xD7 (.zeroPageX b) rfl rfl
theorem cld : Statement (.cld) := of_row 0xD8 .implied rfl rfl
theorem cmpAby (w : Word) : Statement (.cmpAby w) := of_row 0xD9 (.absoluteY w) rfl rfl
theorem nopImpDA : Statement (.nopImpDA) := of_row 0xDA .implied rfl rfl
theorem dcpAbyDB (w : Word) : Statement (.dcpAbyDB w) := of_row 0xDB (.absoluteY w) rfl rfl
theorem nopAbxDC (w : Word) : Statement (.nopAbxDC w) := of_row 0xDC (.absoluteX w) rfl rfl
theorem cmpAbx (w : Word) : Statement (.cmpAbx w) := of_row 0xDD (.absoluteX w) rfl rfl
theorem decAbx (w : Word) : Statement (.decAbx w) := of_row 0xDE (.absoluteX w) rfl rfl
theorem dcpAbxDF (w : Word) : Statement (.dcpAbxDF w) := of_row 0xDF (.absoluteX w) rfl rfl
theorem cpxImm (b : Byte) : Statement (.cpxImm b) := of_row 0xE0 (.immediate b) rfl rfl
theorem sbcIzx (b : Byte) : Statement (.sbcIzx b) := of_row 0xE1 (.indirectX b) rfl rfl
theorem nopImmE2 (b : Byte) : Statement (.nopImmE2 b) := of_row 0xE2 (.immediate b) rfl rfl
theorem iscIzxE3 (b : Byte) : Statement (.iscIzxE3 b) := of_row 0xE3 (.indirectX b) rfl rfl
theorem cpxZp (b : Byte) : Statement (.cpxZp b) := of_row 0xE4 (.zeroPage b) rfl rfl
theorem sbcZp (b : Byte) : Statement (.sbcZp b) := of_row 0xE5 (.zeroPage b) rfl rfl
theorem incZp (b : Byte) : Statement (.incZp b) := of_row 0xE6 (.zeroPage b) rfl rfl
theorem iscZpE7 (b : Byte) : Statement (.iscZpE7 b) := of_row 0xE7 (.zeroPage b) rfl rfl
theorem inx : Statement (.inx) := of_row 0xE8 .implied rfl rfl
theorem sbcImm (b : Byte) : Statement (.sbcImm b) := of_row 0xE9 (.immediate b) rfl rfl
theorem nop : Statement (.nop) := of_row 0xEA .implied rfl rfl
theorem sbcImmEB (b : Byte) : Statement (.sbcImmEB b) := of_row 0xEB (.immediate b) rfl rfl
theorem cpxAbs (w : Word) : Statement (.cpxAbs w) := of_row 0xEC (.absolute w) rfl rfl
theorem sbcAbs (w : Word) : Statement (.sbcAbs w) := of_row 0xED (.absolute w) rfl rfl
theorem incAbs (w : Word) : Statement (.incAbs w) := of_row 0xEE (.absolute w) rfl rfl
theorem iscAbsEF (w : Word) : Statement (.iscAbsEF w) := of_row 0xEF (.absolute w) rfl rfl
theorem beq (b : Byte) : Statement (.beq b) := of_row 0xF0 (.relative b) rfl rfl
theorem sbcIzy (b : Byte) : Statement (.sbcIzy b) := of_row 0xF1 (.indirectY b) rfl rfl
theorem kilF2 : Statement (.kilF2) := of_row 0xF2 .implied rfl rfl
theorem iscIzyF3 (b : Byte) : Statement (.iscIzyF3 b) := of_row 0xF3 (.indirectY b) rfl rfl
theorem nopZpxF4 (b : Byte) : Statement (.nopZpxF4 b) := of_row 0xF4 (.zeroPageX b) rfl rfl
theorem sbcZpx (b : Byte) : Statement (.sbcZpx b) := of_row 0xF5 (.zeroPageX b) rfl rfl
theorem incZpx (b : Byte) : Statement (.incZpx b) := of_row 0xF6 (.zeroPageX b) rfl rfl
theorem iscZpxF7 (b : Byte) : Statement (.iscZpxF7 b) := of_row 0xF7 (.zeroPageX b) rfl rfl
theorem sed : Statement (.sed) := of_row 0xF8 .implied rfl rfl
theorem sbcAby (w : Word) : Statement (.sbcAby w) := of_row 0xF9 (.absoluteY w) rfl rfl
theorem nopImpFA : Statement (.nopImpFA) := of_row 0xFA .implied rfl rfl
theorem iscAbyFB (w : Word) : Statement (.iscAbyFB w) := of_row 0xFB (.absoluteY w) rfl rfl
theorem nopAbxFC (w : Word) : Statement (.nopAbxFC w) := of_row 0xFC (.absoluteX w) rfl rfl
theorem sbcAbx (w : Word) : Statement (.sbcAbx w) := of_row 0xFD (.absoluteX w) rfl rfl
theorem incAbx (w : Word) : Statement (.incAbx w) := of_row 0xFE (.absoluteX w) rfl rfl
theorem iscAbxFF (w : Word) : Statement (.iscAbxFF w) := of_row 0xFF (.absoluteX w) rfl rfl

end Sys2Proof.Laws.TableRow
end

