-- ==== Sys2Proof/Tests/Slice0.lean ====
section
/-! SUPPORT. The row's own tests. Every expected value is from spec/: the vectors T, M, L, A, B, H, I, C, J, K, ST, E, Y, X, W of
95_test_vectors.md (the name of the test carries the vector's), the encodings of opcode_table.json, and the rules. Last come the
witnesses: for each obligation with hypotheses, states and operands that meet them. -/

namespace Sys2Proof.Tests

open Sys2Proof Sys2Proof.Machine

/-! ### Helpers -/

/-- The state of an instance with configuration `cfg` after `set_registers` and the byte writes in `cells`. -/
def boot (r : Registers) (cells : List (Word × Byte)) (cfg : Cfg := Config.default) : State :=
  (setRegisters r (State.construct cfg)).writeAll cells

/-- A state shows these registers and these bytes. -/
def shows (r : Registers) (cells : List (Word × Byte)) (s : State) : Bool :=
  getRegisters s == r && cells.all fun c => s.readByte c.1 == c.2

/-- A step answers a next state that passes a check. -/
def stepShows (s : State) (check : State → Bool) : Bool :=
  match step s with
  | .next t => check t
  | .fault _ => false
  | .refused _ => false

/-- Every instruction of a list has the handler. -/
def allHave (h : Handler) (l : List Instr) : Bool := l.all fun i => i.handler == h

/-! ### Well-formedness: one ill-formed term for each check -/

theorem test_wf_entry_ok : Entry.wf ⟨"LDA", .lda, .absoluteY, 3, some 4, 1⟩ = true := by decide

/-- R63: AbsoluteY has size 3. -/
theorem test_wf_refuses_wrong_size : Entry.wf ⟨"LDA", .lda, .absoluteY, 2, some 4, 1⟩ = false := by decide

/-- R65: the page-cross penalty is 0 or 1. -/
theorem test_wf_refuses_penalty_two : Entry.wf ⟨"LDA", .lda, .absoluteY, 3, some 4, 2⟩ = false := by decide

/-- R212: only an illegal row leaves its cycle count to a parameter. -/
theorem test_wf_refuses_open_cycles_on_legal_row : Entry.wf ⟨"LDA", .lda, .absoluteY, 3, none, 1⟩ = false := by decide

/-- R68: every instruction is well formed, whatever its operand. -/
theorem test_wf_instruction : (Instr.ldaImm 0xFF).wf = true := by decide

/-- R259, W7, W8: 65,535 bytes fit, 65,536 do not. -/
theorem test_image_bound : imageFits (List.replicate 65535 0) = true ∧ imageFits (List.replicate 65536 0) = false := by
  constructor <;> (unfold imageFits; rw [List.length_replicate]; decide)

/-! ### Decoding: every opcode, with the operand bytes 0x34 and 0x12 -/

theorem test_decode_row_0 :
    ([
    (8, 0x00), (16, 0x3401), (8, 0x02), (16, 0x3403), (16, 0x3404), (16, 0x3405), (16, 0x3406), (16, 0x3407), (8, 0x08),
    (16, 0x3409), (8, 0x0A), (16, 0x340B), (24, 0x12340C), (24, 0x12340D), (24, 0x12340E), (24, 0x12340F)].map fun x : Nat × Nat => decodeTableWord x.1 x.2) =
    ([
    .brk, .oraIzx 0x34, .kil02, .sloIzx03 0x34, .nopZp04 0x34, .oraZp 0x34, .aslZp 0x34, .sloZp07 0x34, .php, .oraImm 0x34,
    .aslAcc, .ancImm0B 0x34, .nopAbs0C 0x1234, .oraAbs 0x1234, .aslAbs 0x1234, .sloAbs0F 0x1234] : List Instr).map some := by
  rfl

theorem test_decode_row_1 :
    ([
    (16, 0x3410), (16, 0x3411), (8, 0x12), (16, 0x3413), (16, 0x3414), (16, 0x3415), (16, 0x3416), (16, 0x3417), (8, 0x18),
    (24, 0x123419), (8, 0x1A), (24, 0x12341B), (24, 0x12341C), (24, 0x12341D), (24, 0x12341E), (24, 0x12341F)].map fun x : Nat × Nat => decodeTableWord x.1 x.2) =
    ([
    .bpl 0x34, .oraIzy 0x34, .kil12, .sloIzy13 0x34, .nopZpx14 0x34, .oraZpx 0x34, .aslZpx 0x34, .sloZpx17 0x34, .clc,
    .oraAby 0x1234, .nopImp1A, .sloAby1B 0x1234, .nopAbx1C 0x1234, .oraAbx 0x1234, .aslAbx 0x1234, .sloAbx1F 0x1234] : List Instr).map some := by
  rfl

theorem test_decode_row_2 :
    ([
    (24, 0x123420), (16, 0x3421), (8, 0x22), (16, 0x3423), (16, 0x3424), (16, 0x3425), (16, 0x3426), (16, 0x3427),
    (8, 0x28), (16, 0x3429), (8, 0x2A), (16, 0x342B), (24, 0x12342C), (24, 0x12342D), (24, 0x12342E), (24, 0x12342F)].map fun x : Nat × Nat => decodeTableWord x.1 x.2) =
    ([
    .jsrAbs 0x1234, .andIzx 0x34, .kil22, .rlaIzx23 0x34, .bitZp 0x34, .andZp 0x34, .rolZp 0x34, .rlaZp27 0x34, .plp,
    .andImm 0x34, .rolAcc, .ancImm2B 0x34, .bitAbs 0x1234, .andAbs 0x1234, .rolAbs 0x1234, .rlaAbs2F 0x1234] : List Instr).map some := by
  rfl

theorem test_decode_row_3 :
    ([
    (16, 0x3430), (16, 0x3431), (8, 0x32), (16, 0x3433), (16, 0x3434), (16, 0x3435), (16, 0x3436), (16, 0x3437), (8, 0x38),
    (24, 0x123439), (8, 0x3A), (24, 0x12343B), (24, 0x12343C), (24, 0x12343D), (24, 0x12343E), (24, 0x12343F)].map fun x : Nat × Nat => decodeTableWord x.1 x.2) =
    ([
    .bmi 0x34, .andIzy 0x34, .kil32, .rlaIzy33 0x34, .nopZpx34 0x34, .andZpx 0x34, .rolZpx 0x34, .rlaZpx37 0x34, .sec,
    .andAby 0x1234, .nopImp3A, .rlaAby3B 0x1234, .nopAbx3C 0x1234, .andAbx 0x1234, .rolAbx 0x1234, .rlaAbx3F 0x1234] : List Instr).map some := by
  rfl

theorem test_decode_row_4 :
    ([
    (8, 0x40), (16, 0x3441), (8, 0x42), (16, 0x3443), (16, 0x3444), (16, 0x3445), (16, 0x3446), (16, 0x3447), (8, 0x48),
    (16, 0x3449), (8, 0x4A), (16, 0x344B), (24, 0x12344C), (24, 0x12344D), (24, 0x12344E), (24, 0x12344F)].map fun x : Nat × Nat => decodeTableWord x.1 x.2) =
    ([
    .rti, .eorIzx 0x34, .kil42, .sreIzx43 0x34, .nopZp44 0x34, .eorZp 0x34, .lsrZp 0x34, .sreZp47 0x34, .pha, .eorImm 0x34,
    .lsrAcc, .alrImm4B 0x34, .jmpAbs 0x1234, .eorAbs 0x1234, .lsrAbs 0x1234, .sreAbs4F 0x1234] : List Instr).map some := by
  rfl

theorem test_decode_row_5 :
    ([
    (16, 0x3450), (16, 0x3451), (8, 0x52), (16, 0x3453), (16, 0x3454), (16, 0x3455), (16, 0x3456), (16, 0x3457), (8, 0x58),
    (24, 0x123459), (8, 0x5A), (24, 0x12345B), (24, 0x12345C), (24, 0x12345D), (24, 0x12345E), (24, 0x12345F)].map fun x : Nat × Nat => decodeTableWord x.1 x.2) =
    ([
    .bvc 0x34, .eorIzy 0x34, .kil52, .sreIzy53 0x34, .nopZpx54 0x34, .eorZpx 0x34, .lsrZpx 0x34, .sreZpx57 0x34, .cli,
    .eorAby 0x1234, .nopImp5A, .sreAby5B 0x1234, .nopAbx5C 0x1234, .eorAbx 0x1234, .lsrAbx 0x1234, .sreAbx5F 0x1234] : List Instr).map some := by
  rfl

theorem test_decode_row_6 :
    ([
    (8, 0x60), (16, 0x3461), (8, 0x62), (16, 0x3463), (16, 0x3464), (16, 0x3465), (16, 0x3466), (16, 0x3467), (8, 0x68),
    (16, 0x3469), (8, 0x6A), (16, 0x346B), (24, 0x12346C), (24, 0x12346D), (24, 0x12346E), (24, 0x12346F)].map fun x : Nat × Nat => decodeTableWord x.1 x.2) =
    ([
    .rts, .adcIzx 0x34, .kil62, .rraIzx63 0x34, .nopZp64 0x34, .adcZp 0x34, .rorZp 0x34, .rraZp67 0x34, .pla, .adcImm 0x34,
    .rorAcc, .arrImm6B 0x34, .jmpInd 0x1234, .adcAbs 0x1234, .rorAbs 0x1234, .rraAbs6F 0x1234] : List Instr).map some := by
  rfl

theorem test_decode_row_7 :
    ([
    (16, 0x3470), (16, 0x3471), (8, 0x72), (16, 0x3473), (16, 0x3474), (16, 0x3475), (16, 0x3476), (16, 0x3477), (8, 0x78),
    (24, 0x123479), (8, 0x7A), (24, 0x12347B), (24, 0x12347C), (24, 0x12347D), (24, 0x12347E), (24, 0x12347F)].map fun x : Nat × Nat => decodeTableWord x.1 x.2) =
    ([
    .bvs 0x34, .adcIzy 0x34, .kil72, .rraIzy73 0x34, .nopZpx74 0x34, .adcZpx 0x34, .rorZpx 0x34, .rraZpx77 0x34, .sei,
    .adcAby 0x1234, .nopImp7A, .rraAby7B 0x1234, .nopAbx7C 0x1234, .adcAbx 0x1234, .rorAbx 0x1234, .rraAbx7F 0x1234] : List Instr).map some := by
  rfl

theorem test_decode_row_8 :
    ([
    (16, 0x3480), (16, 0x3481), (16, 0x3482), (16, 0x3483), (16, 0x3484), (16, 0x3485), (16, 0x3486), (16, 0x3487),
    (8, 0x88), (16, 0x3489), (8, 0x8A), (16, 0x348B), (24, 0x12348C), (24, 0x12348D), (24, 0x12348E), (24, 0x12348F)].map fun x : Nat × Nat => decodeTableWord x.1 x.2) =
    ([
    .nopImm80 0x34, .staIzx 0x34, .nopImm82 0x34, .saxIzx83 0x34, .styZp 0x34, .staZp 0x34, .stxZp 0x34, .saxZp87 0x34,
    .dey, .nopImm89 0x34, .txa, .xaaImm8B 0x34, .styAbs 0x1234, .staAbs 0x1234, .stxAbs 0x1234, .saxAbs8F 0x1234] : List Instr).map some := by
  rfl

theorem test_decode_row_9 :
    ([
    (16, 0x3490), (16, 0x3491), (8, 0x92), (16, 0x3493), (16, 0x3494), (16, 0x3495), (16, 0x3496), (16, 0x3497), (8, 0x98),
    (24, 0x123499), (8, 0x9A), (24, 0x12349B), (24, 0x12349C), (24, 0x12349D), (24, 0x12349E), (24, 0x12349F)].map fun x : Nat × Nat => decodeTableWord x.1 x.2) =
    ([
    .bcc 0x34, .staIzy 0x34, .kil92, .ahxIzy93 0x34, .styZpx 0x34, .staZpx 0x34, .stxZpy 0x34, .saxZpy97 0x34, .tya,
    .staAby 0x1234, .txs, .tasAby9B 0x1234, .shyAbx9C 0x1234, .staAbx 0x1234, .shxAby9E 0x1234, .ahxAby9F 0x1234] : List Instr).map some := by
  rfl

theorem test_decode_row_A :
    ([
    (16, 0x34A0), (16, 0x34A1), (16, 0x34A2), (16, 0x34A3), (16, 0x34A4), (16, 0x34A5), (16, 0x34A6), (16, 0x34A7),
    (8, 0xA8), (16, 0x34A9), (8, 0xAA), (16, 0x34AB), (24, 0x1234AC), (24, 0x1234AD), (24, 0x1234AE), (24, 0x1234AF)].map fun x : Nat × Nat => decodeTableWord x.1 x.2) =
    ([
    .ldyImm 0x34, .ldaIzx 0x34, .ldxImm 0x34, .laxIzxA3 0x34, .ldyZp 0x34, .ldaZp 0x34, .ldxZp 0x34, .laxZpA7 0x34, .tay,
    .ldaImm 0x34, .tax, .laxImmAB 0x34, .ldyAbs 0x1234, .ldaAbs 0x1234, .ldxAbs 0x1234, .laxAbsAF 0x1234] : List Instr).map some := by
  rfl

theorem test_decode_row_B :
    ([
    (16, 0x34B0), (16, 0x34B1), (8, 0xB2), (16, 0x34B3), (16, 0x34B4), (16, 0x34B5), (16, 0x34B6), (16, 0x34B7), (8, 0xB8),
    (24, 0x1234B9), (8, 0xBA), (24, 0x1234BB), (24, 0x1234BC), (24, 0x1234BD), (24, 0x1234BE), (24, 0x1234BF)].map fun x : Nat × Nat => decodeTableWord x.1 x.2) =
    ([
    .bcs 0x34, .ldaIzy 0x34, .kilB2, .laxIzyB3 0x34, .ldyZpx 0x34, .ldaZpx 0x34, .ldxZpy 0x34, .laxZpyB7 0x34, .clv,
    .ldaAby 0x1234, .tsx, .lasAbyBB 0x1234, .ldyAbx 0x1234, .ldaAbx 0x1234, .ldxAby 0x1234, .laxAbyBF 0x1234] : List Instr).map some := by
  rfl

theorem test_decode_row_C :
    ([
    (16, 0x34C0), (16, 0x34C1), (16, 0x34C2), (16, 0x34C3), (16, 0x34C4), (16, 0x34C5), (16, 0x34C6), (16, 0x34C7),
    (8, 0xC8), (16, 0x34C9), (8, 0xCA), (16, 0x34CB), (24, 0x1234CC), (24, 0x1234CD), (24, 0x1234CE), (24, 0x1234CF)].map fun x : Nat × Nat => decodeTableWord x.1 x.2) =
    ([
    .cpyImm 0x34, .cmpIzx 0x34, .nopImmC2 0x34, .dcpIzxC3 0x34, .cpyZp 0x34, .cmpZp 0x34, .decZp 0x34, .dcpZpC7 0x34, .iny,
    .cmpImm 0x34, .dex, .axsImmCB 0x34, .cpyAbs 0x1234, .cmpAbs 0x1234, .decAbs 0x1234, .dcpAbsCF 0x1234] : List Instr).map some := by
  rfl

theorem test_decode_row_D :
    ([
    (16, 0x34D0), (16, 0x34D1), (8, 0xD2), (16, 0x34D3), (16, 0x34D4), (16, 0x34D5), (16, 0x34D6), (16, 0x34D7), (8, 0xD8),
    (24, 0x1234D9), (8, 0xDA), (24, 0x1234DB), (24, 0x1234DC), (24, 0x1234DD), (24, 0x1234DE), (24, 0x1234DF)].map fun x : Nat × Nat => decodeTableWord x.1 x.2) =
    ([
    .bne 0x34, .cmpIzy 0x34, .kilD2, .dcpIzyD3 0x34, .nopZpxD4 0x34, .cmpZpx 0x34, .decZpx 0x34, .dcpZpxD7 0x34, .cld,
    .cmpAby 0x1234, .nopImpDA, .dcpAbyDB 0x1234, .nopAbxDC 0x1234, .cmpAbx 0x1234, .decAbx 0x1234, .dcpAbxDF 0x1234] : List Instr).map some := by
  rfl

theorem test_decode_row_E :
    ([
    (16, 0x34E0), (16, 0x34E1), (16, 0x34E2), (16, 0x34E3), (16, 0x34E4), (16, 0x34E5), (16, 0x34E6), (16, 0x34E7),
    (8, 0xE8), (16, 0x34E9), (8, 0xEA), (16, 0x34EB), (24, 0x1234EC), (24, 0x1234ED), (24, 0x1234EE), (24, 0x1234EF)].map fun x : Nat × Nat => decodeTableWord x.1 x.2) =
    ([
    .cpxImm 0x34, .sbcIzx 0x34, .nopImmE2 0x34, .iscIzxE3 0x34, .cpxZp 0x34, .sbcZp 0x34, .incZp 0x34, .iscZpE7 0x34, .inx,
    .sbcImm 0x34, .nop, .sbcImmEB 0x34, .cpxAbs 0x1234, .sbcAbs 0x1234, .incAbs 0x1234, .iscAbsEF 0x1234] : List Instr).map some := by
  rfl

theorem test_decode_row_F :
    ([
    (16, 0x34F0), (16, 0x34F1), (8, 0xF2), (16, 0x34F3), (16, 0x34F4), (16, 0x34F5), (16, 0x34F6), (16, 0x34F7), (8, 0xF8),
    (24, 0x1234F9), (8, 0xFA), (24, 0x1234FB), (24, 0x1234FC), (24, 0x1234FD), (24, 0x1234FE), (24, 0x1234FF)].map fun x : Nat × Nat => decodeTableWord x.1 x.2) =
    ([
    .beq 0x34, .sbcIzy 0x34, .kilF2, .iscIzyF3 0x34, .nopZpxF4 0x34, .sbcZpx 0x34, .incZpx 0x34, .iscZpxF7 0x34, .sed,
    .sbcAby 0x1234, .nopImpFA, .iscAbyFB 0x1234, .nopAbxFC 0x1234, .sbcAbx 0x1234, .incAbx 0x1234, .iscAbxFF 0x1234] : List Instr).map some := by
  rfl

/-! ### Decoding: one word of each family, bit by bit, with a byte left over (the `encoding` column of opcode_table.json) -/

theorem test_bits_load : decodeBytes [0b10101001, 0b00010000, 0b11111111] = .ok (.ldaImm 0x10, [0xFF]) := by rfl

theorem test_bits_store : decodeBytes [0b10001101, 0b00000000, 0b00000010, 0b11111111] = .ok (.staAbs 0x0200, [0xFF]) := by rfl

theorem test_bits_transfer : decodeBytes [0b10101010, 0b11111111] = .ok (.tax, [0xFF]) := by rfl

theorem test_bits_logic : decodeBytes [0b00100100, 0b00010000, 0b11111111] = .ok (.bitZp 0x10, [0xFF]) := by rfl

theorem test_bits_arithmetic : decodeBytes [0b01101001, 0b00010000, 0b11111111] = .ok (.adcImm 0x10, [0xFF]) := by rfl

theorem test_bits_shift : decodeBytes [0b00001010, 0b11111111] = .ok (.aslAcc, [0xFF]) := by rfl

theorem test_bits_increment : decodeBytes [0b11100110, 0b00010000, 0b11111111] = .ok (.incZp 0x10, [0xFF]) := by rfl

theorem test_bits_compare : decodeBytes [0b11001001, 0b00010000, 0b11111111] = .ok (.cmpImm 0x10, [0xFF]) := by rfl

theorem test_bits_branch : decodeBytes [0b11010000, 0b11111011, 0b11111111] = .ok (.bne 0xFB, [0xFF]) := by rfl

theorem test_bits_jump : decodeBytes [0b01101100, 0b00110100, 0b00010010, 0b11111111] = .ok (.jmpInd 0x1234, [0xFF]) := by rfl

theorem test_bits_stack : decodeBytes [0b01001000, 0b11111111] = .ok (.pha, [0xFF]) := by rfl

theorem test_bits_system : decodeBytes [0b00000000, 0b11111111] = .ok (.brk, [0xFF]) := by rfl

theorem test_bits_flag : decodeBytes [0b00011000, 0b11111111] = .ok (.clc, [0xFF]) := by rfl

theorem test_bits_illegal : decodeBytes [0b10100111, 0b00010000, 0b11111111] = .ok (.laxZpA7 0x10, [0xFF]) := by rfl

theorem test_decode_no_opcode : decodeBytes [] = .error .noOpcode := by rfl

theorem test_decode_missing_operand : decodeBytes [0xAD, 0x34] = .error (.missingOperand 0xAD) := by rfl

theorem test_encode_little_endian : encode (.ldaAby 0x1234) = [0xB9, 0x34, 0x12] := by decide

/-! ### One step of each instruction -/

theorem test_T1_ldaImm : stepShows (boot ⟨0x00, 0x00, 0x00, 0x00, 0x20, 0x0000⟩ [(0x0000, 0xA9), (0x0001, 0x00)])
    (fun t => shows ⟨0x00, 0x00, 0x00, 0x00, 0x22, 0x0002⟩ [] t) = true := by decide

theorem test_T3_ldaImm : stepShows (boot ⟨0x00, 0x00, 0x00, 0x00, 0xA2, 0x0000⟩ [(0x0000, 0xA9), (0x0001, 0x7F)])
    (fun t => shows ⟨0x7F, 0x00, 0x00, 0x00, 0x20, 0x0002⟩ [] t) = true := by decide

theorem test_T4_ldxZpy : stepShows (boot ⟨0x00, 0x00, 0x20, 0x00, 0x20, 0x0000⟩ [(0x0010, 0x33), (0x0000, 0xB6), (0x0001, 0xF0)])
    (fun t => shows ⟨0x00, 0x33, 0x20, 0x00, 0x20, 0x0002⟩ [] t) = true := by decide

theorem test_T5_ldyAbx : stepShows (boot ⟨0x00, 0x20, 0x00, 0x00, 0x20, 0x0000⟩ [(0x0010, 0x44), (0x0000, 0xBC), (0x0001, 0xF0), (0x0002, 0xFF)])
    (fun t => shows ⟨0x00, 0x20, 0x44, 0x00, 0x20, 0x0003⟩ [] t) = true := by decide

theorem test_T6_staAbs : stepShows (boot ⟨0x5A, 0x00, 0x00, 0x00, 0xE3, 0x0000⟩ [(0x0000, 0x8D), (0x0001, 0x00), (0x0002, 0x02)])
    (fun t => shows ⟨0x5A, 0x00, 0x00, 0x00, 0xE3, 0x0003⟩ [(0x0200, 0x5A)] t) = true := by decide

theorem test_T8_stxZpy : stepShows (boot ⟨0x00, 0x11, 0x02, 0x00, 0x20, 0x0000⟩ [(0x0000, 0x96), (0x0001, 0xFF)])
    (fun t => shows ⟨0x00, 0x11, 0x02, 0x00, 0x20, 0x0002⟩ [(0x0001, 0x11)] t) = true := by decide

theorem test_T9_styZpx : stepShows (boot ⟨0x00, 0x01, 0x22, 0x00, 0x20, 0x0000⟩ [(0x0000, 0x94), (0x0001, 0x10)])
    (fun t => shows ⟨0x00, 0x01, 0x22, 0x00, 0x20, 0x0002⟩ [(0x0011, 0x22)] t) = true := by decide

theorem test_T10_tax : stepShows (boot ⟨0x80, 0x00, 0x00, 0x00, 0x20, 0x0000⟩ [(0x0000, 0xAA)])
    (fun t => shows ⟨0x80, 0x80, 0x00, 0x00, 0xA0, 0x0001⟩ [] t) = true := by decide

theorem test_T11_tay : stepShows (boot ⟨0x00, 0x00, 0x00, 0x00, 0xA0, 0x0000⟩ [(0x0000, 0xA8)])
    (fun t => shows ⟨0x00, 0x00, 0x00, 0x00, 0x22, 0x0001⟩ [] t) = true := by decide

theorem test_T12_txa : stepShows (boot ⟨0x00, 0x01, 0x00, 0x00, 0x22, 0x0000⟩ [(0x0000, 0x8A)])
    (fun t => shows ⟨0x01, 0x01, 0x00, 0x00, 0x20, 0x0001⟩ [] t) = true := by decide

theorem test_T13_tya : stepShows (boot ⟨0x00, 0x00, 0xC0, 0x00, 0x20, 0x0000⟩ [(0x0000, 0x98)])
    (fun t => shows ⟨0xC0, 0x00, 0xC0, 0x00, 0xA0, 0x0001⟩ [] t) = true := by decide

theorem test_T14_tsx : stepShows (boot ⟨0x00, 0x55, 0x00, 0x00, 0x20, 0x0000⟩ [(0x0000, 0xBA)])
    (fun t => shows ⟨0x00, 0x00, 0x00, 0x00, 0x20, 0x0001⟩ [] t) = true := by decide

theorem test_T15_tsx : stepShows (boot ⟨0x00, 0x55, 0x00, 0x00, 0x20, 0x0000⟩ [(0x0000, 0xBA)] { tsxSetsZN := true })
    (fun t => shows ⟨0x00, 0x00, 0x00, 0x00, 0x22, 0x0001⟩ [] t) = true := by decide

theorem test_T17_txs : stepShows (boot ⟨0x00, 0x00, 0x00, 0x7F, 0xA0, 0x0000⟩ [(0x0000, 0x9A)])
    (fun t => shows ⟨0x00, 0x00, 0x00, 0x00, 0xA0, 0x0001⟩ [] t) = true := by decide

theorem test_L2_andImm : stepShows (boot ⟨0xF0, 0x00, 0x00, 0x00, 0xA1, 0x0000⟩ [(0x0000, 0x29), (0x0001, 0x0F)])
    (fun t => shows ⟨0x00, 0x00, 0x00, 0x00, 0x23, 0x0002⟩ [] t) = true := by decide

theorem test_L3_eorImm : stepShows (boot ⟨0xFF, 0x00, 0x00, 0x00, 0x20, 0x0000⟩ [(0x0000, 0x49), (0x0001, 0x0F)])
    (fun t => shows ⟨0xF0, 0x00, 0x00, 0x00, 0xA0, 0x0002⟩ [] t) = true := by decide

theorem test_L5_oraImm : stepShows (boot ⟨0x01, 0x00, 0x00, 0x00, 0x20, 0x0000⟩ [(0x0000, 0x09), (0x0001, 0x80)])
    (fun t => shows ⟨0x81, 0x00, 0x00, 0x00, 0xA0, 0x0002⟩ [] t) = true := by decide

theorem test_L7_bitZp : stepShows (boot ⟨0x01, 0x00, 0x00, 0x00, 0x20, 0x0000⟩ [(0x0010, 0xC0), (0x0000, 0x24), (0x0001, 0x10)])
    (fun t => shows ⟨0x01, 0x00, 0x00, 0x00, 0xE2, 0x0002⟩ [] t) = true := by decide

theorem test_L8_bitAbs : stepShows (boot ⟨0xFF, 0x00, 0x00, 0x00, 0xE2, 0x0000⟩ [(0x0300, 0x3F), (0x0000, 0x2C), (0x0001, 0x00), (0x0002, 0x03)])
    (fun t => shows ⟨0xFF, 0x00, 0x00, 0x00, 0x20, 0x0003⟩ [] t) = true := by decide

theorem test_A3_adcImm : stepShows (boot ⟨0x80, 0x00, 0x00, 0x00, 0x20, 0x0000⟩ [(0x0000, 0x69), (0x0001, 0x80)])
    (fun t => shows ⟨0x00, 0x00, 0x00, 0x00, 0x63, 0x0002⟩ [] t) = true := by decide

theorem test_A10_adcImm : stepShows (boot ⟨0x09, 0x00, 0x00, 0x00, 0x28, 0x0000⟩ [(0x0000, 0x69), (0x0001, 0x01)])
    (fun t => shows ⟨0x0A, 0x00, 0x00, 0x00, 0x28, 0x0002⟩ [] t) = true := by decide

theorem test_B2_sbcImm : stepShows (boot ⟨0x10, 0x00, 0x00, 0x00, 0x20, 0x0000⟩ [(0x0000, 0xE9), (0x0001, 0x1F)])
    (fun t => shows ⟨0xF0, 0x00, 0x00, 0x00, 0xA0, 0x0002⟩ [] t) = true := by decide

theorem test_B5_sbcImm : stepShows (boot ⟨0x80, 0x00, 0x00, 0x00, 0x21, 0x0000⟩ [(0x0000, 0xE9), (0x0001, 0x01)])
    (fun t => shows ⟨0x7F, 0x00, 0x00, 0x00, 0x61, 0x0002⟩ [] t) = true := by decide

theorem test_H3_aslAcc : stepShows (boot ⟨0x40, 0x00, 0x00, 0x00, 0x21, 0x0000⟩ [(0x0000, 0x0A)])
    (fun t => shows ⟨0x80, 0x00, 0x00, 0x00, 0xA0, 0x0001⟩ [] t) = true := by decide

theorem test_H4_aslZp : stepShows (boot ⟨0x00, 0x00, 0x00, 0x00, 0x20, 0x0000⟩ [(0x0010, 0xFF), (0x0000, 0x06), (0x0001, 0x10)])
    (fun t => shows ⟨0x00, 0x00, 0x00, 0x00, 0xA1, 0x0002⟩ [(0x0010, 0xFE)] t) = true := by decide

theorem test_H5_lsrAcc : stepShows (boot ⟨0xA5, 0x00, 0x00, 0x00, 0x20, 0x0000⟩ [(0x0000, 0x4A)])
    (fun t => shows ⟨0x52, 0x00, 0x00, 0x00, 0x21, 0x0001⟩ [] t) = true := by decide

theorem test_H7_lsrAbs : stepShows (boot ⟨0x00, 0x00, 0x00, 0x00, 0x20, 0x0000⟩ [(0x0300, 0x80), (0x0000, 0x4E), (0x0001, 0x00), (0x0002, 0x03)])
    (fun t => shows ⟨0x00, 0x00, 0x00, 0x00, 0x20, 0x0003⟩ [(0x0300, 0x40)] t) = true := by decide

theorem test_H8_rolAcc : stepShows (boot ⟨0x80, 0x00, 0x00, 0x00, 0x21, 0x0000⟩ [(0x0000, 0x2A)])
    (fun t => shows ⟨0x01, 0x00, 0x00, 0x00, 0x21, 0x0001⟩ [] t) = true := by decide

theorem test_H10_rolZp : stepShows (boot ⟨0x00, 0x00, 0x00, 0x00, 0x21, 0x0000⟩ [(0x0010, 0x00), (0x0000, 0x26), (0x0001, 0x10)])
    (fun t => shows ⟨0x00, 0x00, 0x00, 0x00, 0x20, 0x0002⟩ [(0x0010, 0x01)] t) = true := by decide

theorem test_H11_rorAcc : stepShows (boot ⟨0x01, 0x00, 0x00, 0x00, 0x21, 0x0000⟩ [(0x0000, 0x6A)])
    (fun t => shows ⟨0x80, 0x00, 0x00, 0x00, 0xA1, 0x0001⟩ [] t) = true := by decide

theorem test_H13_rorZpx : stepShows (boot ⟨0x00, 0x01, 0x00, 0x00, 0x21, 0x0000⟩ [(0x0011, 0x02), (0x0000, 0x76), (0x0001, 0x10)])
    (fun t => shows ⟨0x00, 0x01, 0x00, 0x00, 0xA0, 0x0002⟩ [(0x0011, 0x81)] t) = true := by decide

theorem test_I2_incZp : stepShows (boot ⟨0x00, 0x00, 0x00, 0x00, 0x61, 0x0000⟩ [(0x0010, 0x7F), (0x0000, 0xE6), (0x0001, 0x10)])
    (fun t => shows ⟨0x00, 0x00, 0x00, 0x00, 0xE1, 0x0002⟩ [(0x0010, 0x80)] t) = true := by decide

theorem test_I9_incAbx : stepShows (boot ⟨0x00, 0x01, 0x00, 0x00, 0x20, 0x0000⟩ [(0x0300, 0x41), (0x0000, 0xFE), (0x0001, 0xFF), (0x0002, 0x02)])
    (fun t => shows ⟨0x00, 0x01, 0x00, 0x00, 0x20, 0x0003⟩ [(0x0300, 0x42)] t) = true := by decide

theorem test_I3_decZp : stepShows (boot ⟨0x00, 0x00, 0x00, 0x00, 0x20, 0x0000⟩ [(0x0010, 0x00), (0x0000, 0xC6), (0x0001, 0x10)])
    (fun t => shows ⟨0x00, 0x00, 0x00, 0x00, 0xA0, 0x0002⟩ [(0x0010, 0xFF)] t) = true := by decide

theorem test_I4_decAbs : stepShows (boot ⟨0x00, 0x00, 0x00, 0x00, 0x20, 0x0000⟩ [(0x0300, 0x01), (0x0000, 0xCE), (0x0001, 0x00), (0x0002, 0x03)])
    (fun t => shows ⟨0x00, 0x00, 0x00, 0x00, 0x22, 0x0003⟩ [(0x0300, 0x00)] t) = true := by decide

theorem test_I5_inx : stepShows (boot ⟨0x00, 0xFF, 0x00, 0x00, 0x20, 0x0000⟩ [(0x0000, 0xE8)])
    (fun t => shows ⟨0x00, 0x00, 0x00, 0x00, 0x22, 0x0001⟩ [] t) = true := by decide

theorem test_I6_iny : stepShows (boot ⟨0x00, 0x00, 0x7F, 0x00, 0x20, 0x0000⟩ [(0x0000, 0xC8)])
    (fun t => shows ⟨0x00, 0x00, 0x80, 0x00, 0xA0, 0x0001⟩ [] t) = true := by decide

theorem test_I7_dex : stepShows (boot ⟨0x00, 0x00, 0x00, 0x00, 0x20, 0x0000⟩ [(0x0000, 0xCA)])
    (fun t => shows ⟨0x00, 0xFF, 0x00, 0x00, 0xA0, 0x0001⟩ [] t) = true := by decide

theorem test_I8_dey : stepShows (boot ⟨0x00, 0x00, 0x01, 0x00, 0x20, 0x0000⟩ [(0x0000, 0x88)])
    (fun t => shows ⟨0x00, 0x00, 0x00, 0x00, 0x22, 0x0001⟩ [] t) = true := by decide

theorem test_C2_cmpImm : stepShows (boot ⟨0x00, 0x00, 0x00, 0x00, 0x20, 0x0000⟩ [(0x0000, 0xC9), (0x0001, 0x01)])
    (fun t => shows ⟨0x00, 0x00, 0x00, 0x00, 0xA0, 0x0002⟩ [] t) = true := by decide

theorem test_C5_cmpZp : stepShows (boot ⟨0xFF, 0x00, 0x00, 0x00, 0x20, 0x0000⟩ [(0x0010, 0x00), (0x0000, 0xC5), (0x0001, 0x10)])
    (fun t => shows ⟨0xFF, 0x00, 0x00, 0x00, 0xA1, 0x0002⟩ [] t) = true := by decide

theorem test_C6_cpxImm : stepShows (boot ⟨0x00, 0x05, 0x00, 0x00, 0x20, 0x0000⟩ [(0x0000, 0xE0), (0x0001, 0x06)])
    (fun t => shows ⟨0x00, 0x05, 0x00, 0x00, 0xA0, 0x0002⟩ [] t) = true := by decide

theorem test_C7_cpxAbs : stepShows (boot ⟨0x00, 0x06, 0x00, 0x00, 0x20, 0x0000⟩ [(0x0300, 0x06), (0x0000, 0xEC), (0x0001, 0x00), (0x0002, 0x03)])
    (fun t => shows ⟨0x00, 0x06, 0x00, 0x00, 0x23, 0x0003⟩ [] t) = true := by decide

theorem test_C8_cpyImm : stepShows (boot ⟨0x00, 0x00, 0x06, 0x00, 0x20, 0x0000⟩ [(0x0000, 0xC0), (0x0001, 0x05)])
    (fun t => shows ⟨0x00, 0x00, 0x06, 0x00, 0x21, 0x0002⟩ [] t) = true := by decide

theorem test_C9_cpyZp : stepShows (boot ⟨0x00, 0x00, 0x00, 0x00, 0x20, 0x0000⟩ [(0x0010, 0xFF), (0x0000, 0xC4), (0x0001, 0x10)])
    (fun t => shows ⟨0x00, 0x00, 0x00, 0x00, 0x20, 0x0002⟩ [] t) = true := by decide

theorem test_J2_bcc : stepShows (boot ⟨0x00, 0x00, 0x00, 0x00, 0x20, 0x0000⟩ [(0x0000, 0x90), (0x0001, 0xFE)])
    (fun t => shows ⟨0x00, 0x00, 0x00, 0x00, 0x20, 0x0000⟩ [] t) = true := by decide

theorem test_J17_bcc : stepShows (boot ⟨0x00, 0x00, 0x00, 0x00, 0x20, 0xFFF0⟩ [(0xFFF0, 0x90), (0xFFF1, 0x7F)])
    (fun t => shows ⟨0x00, 0x00, 0x00, 0x00, 0x20, 0x0071⟩ [] t) = true := by decide

theorem test_J3_bcs : stepShows (boot ⟨0x00, 0x00, 0x00, 0x00, 0x20, 0x0000⟩ [(0x0000, 0xB0), (0x0001, 0x40)])
    (fun t => shows ⟨0x00, 0x00, 0x00, 0x00, 0x20, 0x0002⟩ [] t) = true := by decide

theorem test_J4_bcs : stepShows (boot ⟨0x00, 0x00, 0x00, 0x00, 0x21, 0x0000⟩ [(0x0000, 0xB0), (0x0001, 0x40)])
    (fun t => shows ⟨0x00, 0x00, 0x00, 0x00, 0x21, 0x0042⟩ [] t) = true := by decide

theorem test_J5_beq : stepShows (boot ⟨0x00, 0x00, 0x00, 0x00, 0x22, 0x0300⟩ [(0x0300, 0xF0), (0x0301, 0xFE)])
    (fun t => shows ⟨0x00, 0x00, 0x00, 0x00, 0x22, 0x0300⟩ [] t) = true := by decide

theorem test_J6_beq : stepShows (boot ⟨0x00, 0x00, 0x00, 0x00, 0x20, 0x0000⟩ [(0x0000, 0xF0), (0x0001, 0x10)])
    (fun t => shows ⟨0x00, 0x00, 0x00, 0x00, 0x20, 0x0002⟩ [] t) = true := by decide

theorem test_J7_bne : stepShows (boot ⟨0x00, 0x00, 0x00, 0x00, 0x20, 0x0005⟩ [(0x0005, 0xD0), (0x0006, 0xFB)])
    (fun t => shows ⟨0x00, 0x00, 0x00, 0x00, 0x20, 0x0002⟩ [] t) = true := by decide

theorem test_J8_bne : stepShows (boot ⟨0x00, 0x00, 0x00, 0x00, 0x22, 0x0005⟩ [(0x0005, 0xD0), (0x0006, 0xFB)])
    (fun t => shows ⟨0x00, 0x00, 0x00, 0x00, 0x22, 0x0007⟩ [] t) = true := by decide

theorem test_J9_bmi : stepShows (boot ⟨0x00, 0x00, 0x00, 0x00, 0xA0, 0x0000⟩ [(0x0000, 0x30), (0x0001, 0x7F)])
    (fun t => shows ⟨0x00, 0x00, 0x00, 0x00, 0xA0, 0x0081⟩ [] t) = true := by decide

theorem test_J10_bmi : stepShows (boot ⟨0x00, 0x00, 0x00, 0x00, 0x20, 0x0000⟩ [(0x0000, 0x30), (0x0001, 0x7F)])
    (fun t => shows ⟨0x00, 0x00, 0x00, 0x00, 0x20, 0x0002⟩ [] t) = true := by decide

theorem test_J11_bpl : stepShows (boot ⟨0x00, 0x00, 0x00, 0x00, 0x20, 0x0000⟩ [(0x0000, 0x10), (0x0001, 0x80)])
    (fun t => shows ⟨0x00, 0x00, 0x00, 0x00, 0x20, 0xFF82⟩ [] t) = true := by decide

theorem test_J12_bpl : stepShows (boot ⟨0x00, 0x00, 0x00, 0x00, 0xA0, 0x0000⟩ [(0x0000, 0x10), (0x0001, 0x80)])
    (fun t => shows ⟨0x00, 0x00, 0x00, 0x00, 0xA0, 0x0002⟩ [] t) = true := by decide

theorem test_J13_bvc : stepShows (boot ⟨0x00, 0x00, 0x00, 0x00, 0x20, 0x0010⟩ [(0x0010, 0x50), (0x0011, 0x02)])
    (fun t => shows ⟨0x00, 0x00, 0x00, 0x00, 0x20, 0x0014⟩ [] t) = true := by decide

theorem test_J14_bvc : stepShows (boot ⟨0x00, 0x00, 0x00, 0x00, 0x60, 0x0010⟩ [(0x0010, 0x50), (0x0011, 0x02)])
    (fun t => shows ⟨0x00, 0x00, 0x00, 0x00, 0x60, 0x0012⟩ [] t) = true := by decide

theorem test_J15_bvs : stepShows (boot ⟨0x00, 0x00, 0x00, 0x00, 0x20, 0x0010⟩ [(0x0010, 0x70), (0x0011, 0x02)])
    (fun t => shows ⟨0x00, 0x00, 0x00, 0x00, 0x20, 0x0012⟩ [] t) = true := by decide

theorem test_J16_bvs : stepShows (boot ⟨0x00, 0x00, 0x00, 0x00, 0x60, 0x0010⟩ [(0x0010, 0x70), (0x0011, 0x02)])
    (fun t => shows ⟨0x00, 0x00, 0x00, 0x00, 0x60, 0x0014⟩ [] t) = true := by decide

theorem test_M15_jmpInd : stepShows (boot ⟨0x00, 0x00, 0x00, 0x00, 0x20, 0x0000⟩ [(0x02FF, 0x78), (0x0300, 0x56), (0x0200, 0x9A), (0x0000, 0x6C), (0x0001, 0xFF), (0x0002, 0x02)])
    (fun t => shows ⟨0x00, 0x00, 0x00, 0x00, 0x20, 0x5678⟩ [] t) = true := by decide

theorem test_K1_jmpAbs : stepShows (boot ⟨0x00, 0x00, 0x00, 0x00, 0x20, 0x0000⟩ [(0x0000, 0x4C), (0x0001, 0x00), (0x0002, 0x40)])
    (fun t => shows ⟨0x00, 0x00, 0x00, 0x00, 0x20, 0x4000⟩ [] t) = true := by decide

theorem test_K5_jsrAbs : stepShows (boot ⟨0x00, 0x00, 0x00, 0xFF, 0x20, 0x12FD⟩ [(0x12FD, 0x20), (0x12FE, 0x00), (0x12FF, 0x40)])
    (fun t => shows ⟨0x00, 0x00, 0x00, 0xFD, 0x20, 0x4000⟩ [(0x01FF, 0x12), (0x01FE, 0xFF)] t) = true := by decide

theorem test_K6_rts : stepShows (boot ⟨0x00, 0x00, 0x00, 0xFD, 0x20, 0x0000⟩ [(0x01FE, 0xFF), (0x01FF, 0xFF), (0x0000, 0x60)])
    (fun t => shows ⟨0x00, 0x00, 0x00, 0xFF, 0x20, 0x0000⟩ [] t) = true := by decide

theorem test_K7_rti : stepShows (boot ⟨0x00, 0x00, 0x00, 0xFC, 0x20, 0x0000⟩ [(0x01FD, 0xA1), (0x01FE, 0x34), (0x01FF, 0x12), (0x0000, 0x40)])
    (fun t => shows ⟨0x00, 0x00, 0x00, 0xFF, 0xA1, 0x1234⟩ [] t) = true := by decide

theorem test_K9_rti : stepShows (boot ⟨0x00, 0x00, 0x00, 0xFE, 0x20, 0x0000⟩ [(0x01FF, 0x21), (0x0100, 0x78), (0x0101, 0x56), (0x0000, 0x40)])
    (fun t => shows ⟨0x00, 0x00, 0x00, 0x01, 0x21, 0x5678⟩ [] t) = true := by decide

theorem test_ST1_pha : stepShows (boot ⟨0x42, 0x00, 0x00, 0x00, 0x20, 0x0000⟩ [(0x0000, 0x48)])
    (fun t => shows ⟨0x42, 0x00, 0x00, 0xFF, 0x20, 0x0001⟩ [(0x0100, 0x42)] t) = true := by decide

theorem test_ST2_php : stepShows (boot ⟨0x00, 0x00, 0x00, 0x00, 0x20, 0x0000⟩ [(0x0000, 0x08)])
    (fun t => shows ⟨0x00, 0x00, 0x00, 0xFF, 0x20, 0x0001⟩ [(0x0100, 0x20)] t) = true := by decide

theorem test_ST3_php : stepShows (boot ⟨0x00, 0x00, 0x00, 0xFF, 0xFF, 0x0000⟩ [(0x0000, 0x08)])
    (fun t => shows ⟨0x00, 0x00, 0x00, 0xFE, 0xFF, 0x0001⟩ [(0x01FF, 0xFF)] t) = true := by decide

theorem test_ST4_pla : stepShows (boot ⟨0x55, 0x00, 0x00, 0xFF, 0x20, 0x0000⟩ [(0x0100, 0x00), (0x0000, 0x68)])
    (fun t => shows ⟨0x00, 0x00, 0x00, 0x00, 0x22, 0x0001⟩ [] t) = true := by decide

theorem test_ST5_pla : stepShows (boot ⟨0x00, 0x00, 0x00, 0x7F, 0x20, 0x0000⟩ [(0x0180, 0x80), (0x0000, 0x68)])
    (fun t => shows ⟨0x80, 0x00, 0x00, 0x80, 0xA0, 0x0001⟩ [] t) = true := by decide

theorem test_ST6_plp : stepShows (boot ⟨0x00, 0x00, 0x00, 0xFF, 0x20, 0x0000⟩ [(0x0100, 0xE3), (0x0000, 0x28)])
    (fun t => shows ⟨0x00, 0x00, 0x00, 0x00, 0xE3, 0x0001⟩ [] t) = true := by decide

theorem test_ST7_plp : stepShows (boot ⟨0x00, 0x00, 0x00, 0xFF, 0x20, 0x0000⟩ [(0x0100, 0x00), (0x0000, 0x28)])
    (fun t => shows ⟨0x00, 0x00, 0x00, 0x00, 0x00, 0x0001⟩ [] t) = true := by decide

theorem test_ST10_brk : stepShows (boot ⟨0x00, 0x00, 0x00, 0xFF, 0x23, 0x0300⟩ [(0xFFFE, 0x34), (0xFFFF, 0x12), (0x0300, 0x00)])
    (fun t => shows ⟨0x00, 0x00, 0x00, 0xFC, 0x33, 0x1234⟩ [(0x01FF, 0x03), (0x01FE, 0x00), (0x01FD, 0x23)] t) = true := by decide

theorem test_ST11_brk : stepShows (boot ⟨0x00, 0x00, 0x00, 0xFF, 0x23, 0x0300⟩ [(0xFFFE, 0x34), (0xFFFF, 0x12), (0x0300, 0x00)] { brkPushOffset := 2, brkBBeforePush := true, brkSetsI := true })
    (fun t => shows ⟨0x00, 0x00, 0x00, 0xFC, 0x37, 0x1234⟩ [(0x01FF, 0x03), (0x01FE, 0x02), (0x01FD, 0x33)] t) = true := by decide

theorem test_ST13_nop : stepShows (boot ⟨0x01, 0x02, 0x03, 0x04, 0xE3, 0x0000⟩ [(0x0000, 0xEA)])
    (fun t => shows ⟨0x01, 0x02, 0x03, 0x04, 0xE3, 0x0001⟩ [] t && t.cycles == 2) = true := by decide

theorem test_ST14_clc : stepShows (boot ⟨0x00, 0x00, 0x00, 0x00, 0xFF, 0x0000⟩ [(0x0000, 0x18)])
    (fun t => shows ⟨0x00, 0x00, 0x00, 0x00, 0xFE, 0x0001⟩ [] t) = true := by decide

theorem test_ST15_sec : stepShows (boot ⟨0x00, 0x00, 0x00, 0x00, 0x20, 0x0000⟩ [(0x0000, 0x38)])
    (fun t => shows ⟨0x00, 0x00, 0x00, 0x00, 0x21, 0x0001⟩ [] t) = true := by decide

theorem test_ST16_cli : stepShows (boot ⟨0x00, 0x00, 0x00, 0x00, 0x24, 0x0000⟩ [(0x0000, 0x58)])
    (fun t => shows ⟨0x00, 0x00, 0x00, 0x00, 0x20, 0x0001⟩ [] t) = true := by decide

theorem test_ST17_sei : stepShows (boot ⟨0x00, 0x00, 0x00, 0x00, 0x20, 0x0000⟩ [(0x0000, 0x78)])
    (fun t => shows ⟨0x00, 0x00, 0x00, 0x00, 0x24, 0x0001⟩ [] t) = true := by decide

theorem test_ST18_cld : stepShows (boot ⟨0x00, 0x00, 0x00, 0x00, 0x28, 0x0000⟩ [(0x0000, 0xD8)])
    (fun t => shows ⟨0x00, 0x00, 0x00, 0x00, 0x20, 0x0001⟩ [] t) = true := by decide

theorem test_ST19_sed : stepShows (boot ⟨0x00, 0x00, 0x00, 0x00, 0x20, 0x0000⟩ [(0x0000, 0xF8)])
    (fun t => shows ⟨0x00, 0x00, 0x00, 0x00, 0x28, 0x0001⟩ [] t) = true := by decide

theorem test_ST20_clv : stepShows (boot ⟨0x00, 0x00, 0x00, 0x00, 0x60, 0x0000⟩ [(0x0000, 0xB8)])
    (fun t => shows ⟨0x00, 0x00, 0x00, 0x00, 0x20, 0x0001⟩ [] t) = true := by decide

/-! ### Addressing (the vectors M), by the resolver alone -/

theorem test_M2_absoluteX : resolve (.absoluteX 0x12F0) (boot ⟨0x00, 0x20, 0x00, 0x00, 0x20, 0x0000⟩ []) = 0x1310 := by decide

theorem test_M3_absoluteY_wraps : resolve (.absoluteY 0xFFFF) (boot ⟨0x00, 0x00, 0x01, 0x00, 0x20, 0x0000⟩ []) = 0x0000 := by decide

theorem test_M7_indirectX : resolve (.indirectX 0xFE) (boot ⟨0x00, 0x04, 0x00, 0x00, 0x20, 0x0000⟩ [(0x0002, 0x00), (0x0003, 0x03)]) = 0x0300 := by decide

theorem test_M8_pointer_at_FF : resolve (.indirectX 0xFF) (boot ⟨0x00, 0x00, 0x00, 0x00, 0x20, 0x0000⟩ [(0x00FF, 0x00), (0x0100, 0x04), (0x0000, 0xA1)]) = 0x0400 := by decide

theorem test_M9_pointer_at_FF_wrapping : resolve (.indirectX 0xFF) (boot ⟨0x00, 0x00, 0x00, 0x00, 0x20, 0x0000⟩ [(0x00FF, 0x00), (0x0100, 0x04), (0x0000, 0xA1)] { zpPtrWrap := true }) = 0xA100 := by decide

theorem test_M11_indirectY_wraps : resolve (.indirectY 0x40) (boot ⟨0x00, 0x00, 0xFF, 0x00, 0x20, 0x0000⟩ [(0x0040, 0xFF), (0x0041, 0xFF)]) = 0x00FE := by decide

theorem test_M13_zeroPageX_wraps : resolve (.zeroPageX 0x80) (boot ⟨0x00, 0xFF, 0x00, 0x00, 0x20, 0x0000⟩ []) = 0x007F := by decide

theorem test_T4_zeroPageY_wraps : resolve (.zeroPageY 0xF0) (boot ⟨0x00, 0x00, 0x20, 0x00, 0x20, 0x0000⟩ []) = 0x0010 := by decide

theorem test_M16_indirect_page_wrap : resolve (.indirect 0x02FF) (boot ⟨0x00, 0x00, 0x00, 0x00, 0x20, 0x0000⟩ [(0x02FF, 0x78), (0x0300, 0x56), (0x0200, 0x9A)] { jmpIndPageWrap := true }) = 0x9A78 := by decide

theorem test_M17_indirect_at_FFFF : resolve (.indirect 0xFFFF) (boot ⟨0x00, 0x00, 0x00, 0x00, 0x20, 0x0000⟩ [(0xFFFF, 0x10), (0x0000, 0x6C)]) = 0x6C10 := by decide

theorem test_M5_immediate_at_FFFF : resolve (.immediate 0x99) (boot ⟨0x00, 0x00, 0x00, 0x00, 0x20, 0xFFFF⟩ []) = 0x0000 := by decide

theorem test_J2_relative : resolve (.relative 0xFE) (boot ⟨0x00, 0x00, 0x00, 0x00, 0x20, 0x0000⟩ []) = 0xFFFE := by decide

/-- M18: an instruction straddles the top of memory. -/
theorem test_M18_fetch_wraps : fetchInstr (boot ⟨0, 0, 0, 0, 0x20, 0xFFFE⟩ [(0xFFFE, 0xAD), (0xFFFF, 0x34), (0x0000, 0x12)]) =
    .ldaAbs 0x1234 := by decide

/-! ### Cycles (the vectors Y), illegal opcodes (X), interrupts (E) and the host's port (W) -/

theorem test_Y1_cycles : stepShows (boot ⟨0x00, 0x20, 0x00, 0x00, 0x20, 0x0000⟩ [(0x0000, 0xBD), (0x0001, 0xF0), (0x0002, 0x12)])
    (fun t => t.cycles == 5) = true := by decide

theorem test_Y2_cycles : stepShows (boot ⟨0x00, 0x20, 0x00, 0x00, 0x20, 0x1300⟩ [(0x1300, 0xBD), (0x1301, 0xF0), (0x1302, 0x12)])
    (fun t => t.cycles == 4) = true := by decide

theorem test_Y6_cycles : stepShows (boot ⟨0x00, 0x00, 0x00, 0x00, 0x20, 0x0000⟩ [(0x0000, 0x90), (0x0001, 0xFE)])
    (fun t => t.cycles == 3) = true := by decide

theorem test_Y8_cycles : stepShows (boot ⟨0x00, 0x20, 0x00, 0x00, 0x20, 0x0000⟩ [(0x0000, 0x9D), (0x0001, 0xF0), (0x0002, 0x12)])
    (fun t => t.cycles == 5) = true := by decide

/-- X1: what is fixed of the illegal opcode 0x04. -/
theorem test_X1_illegal : stepShows (boot ⟨0, 0, 0, 0, 0x20, 0⟩ [(0x0000, 0x04), (0x0001, 0x10)])
    (fun t => t.pc == 0x0002 && t.cycles == 3) = true := by rfl

/-- X4: a KIL row does not halt the core. -/
theorem test_X4_kil : stepShows (boot ⟨0, 0, 0, 0, 0x20, 0⟩ [(0x0000, 0x02)]) (fun t => t.pc == 0x0001) = true := by rfl

/-- X5: 0xEB is an illegal row, not R135. -/
theorem test_X5_sbcEB : (Instr.sbcImmEB 0x01).handler = .illegal ∧ (Instr.sbcImm 0x01).handler = .sbc := by decide

theorem test_E1_nmi : (fun t => shows ⟨0x00, 0x00, 0x00, 0xFC, 0x25, 0x8000⟩ [(0x01FF, 0x02), (0x01FE, 0x03), (0x01FD, 0x21)] t && t.cycles == 7) (triggerNmi (boot ⟨0x00, 0x00, 0x00, 0xFF, 0x21, 0x0203⟩ [(0xFFFA, 0x00), (0xFFFB, 0x80)])) = true := by decide

theorem test_E6_nmi : (fun t => shows ⟨0x00, 0x00, 0x00, 0xFC, 0x35, 0x8000⟩ [(0x01FD, 0x21)] t) (triggerNmi (boot ⟨0x00, 0x00, 0x00, 0xFF, 0x31, 0x0203⟩ [(0xFFFA, 0x00), (0xFFFB, 0x80)])) = true := by decide

theorem test_E7_nmi : (fun t => shows ⟨0x00, 0x00, 0x00, 0xFC, 0x35, 0x8000⟩ [(0x01FD, 0x31)] t) (triggerNmi (boot ⟨0x00, 0x00, 0x00, 0xFF, 0x31, 0x0203⟩ [(0xFFFA, 0x00), (0xFFFB, 0x80)] { intPushedB := .keep })) = true := by decide

theorem test_E8_nmi : (fun t => shows ⟨0x00, 0x00, 0x00, 0xFC, 0x25, 0x8000⟩ [(0x01FD, 0x31)] t) (triggerNmi (boot ⟨0x00, 0x00, 0x00, 0xFF, 0x21, 0x0203⟩ [(0xFFFA, 0x00), (0xFFFB, 0x80)] { intPushedB := .set })) = true := by decide

theorem test_E9_nmi : (fun t => shows ⟨0x00, 0x00, 0x00, 0xFD, 0x24, 0x0000⟩ [(0x0100, 0x00), (0x01FF, 0x00), (0x01FE, 0x20)] t) (triggerNmi (boot ⟨0x00, 0x00, 0x00, 0x00, 0x20, 0x0000⟩ [])) = true := by decide

theorem test_E2_irq : (fun t => shows ⟨0x00, 0x00, 0x00, 0xFC, 0x25, 0x9000⟩ [(0x01FF, 0x02), (0x01FE, 0x03), (0x01FD, 0x21)] t && t.cycles == 7) (triggerIrq (boot ⟨0x00, 0x00, 0x00, 0xFF, 0x21, 0x0203⟩ [(0xFFFE, 0x00), (0xFFFF, 0x90)])) = true := by decide

theorem test_E3_irq : (fun t => shows ⟨0x00, 0x00, 0x00, 0xFF, 0x25, 0x0203⟩ [(0x01FF, 0x00), (0x01FE, 0x00), (0x01FD, 0x00)] t && t.cycles == 0) (triggerIrq (boot ⟨0x00, 0x00, 0x00, 0xFF, 0x25, 0x0203⟩ [(0xFFFE, 0x00), (0xFFFF, 0x90)])) = true := by decide

theorem test_E4_irq : (fun t => shows ⟨0x00, 0x00, 0x00, 0xFC, 0x25, 0x9000⟩ [(0x01FF, 0x02), (0x01FE, 0x03), (0x01FD, 0x25)] t && t.cycles == 7) (triggerIrq (boot ⟨0x00, 0x00, 0x00, 0xFF, 0x25, 0x0203⟩ [(0xFFFE, 0x00), (0xFFFF, 0x90)] { irqMaskedByI := false })) = true := by decide

theorem test_W1_write_word_wraps : shows ⟨0, 0, 0, 0, 0x20, 0⟩ [(0xFFFF, 0xEF), (0x0000, 0xBE)] (State.reset.writeWord 0xFFFF 0xBEEF) =
    true := by decide

theorem test_W2_W3_read_range : readRange 0xFFFF 1 (State.reset.writeByte 0xFFFF 0x7E) = [0x7E] ∧ readRange 0xFFFF 2 State.reset = [] := by
  decide

theorem test_W5_write_range_fails : writeRange [0x11, 0x22] 0xFFFF State.reset = (false, State.reset) := by decide

theorem test_W6_write_range : (writeRange [0x11, 0x22] 0xFFFE State.reset).1 = true ∧
    (writeRange [0x11, 0x22] 0xFFFE State.reset).2.mem = [(0xFFFE, 0x11), (0xFFFF, 0x22)] := by decide

theorem test_W9_load_program : (loadProgram [0xA9, 0x01] (State.reset.writeByte 0x0005 0x77)).2.mem =
    [(0x0000, 0xA9), (0x0001, 0x01), (0x0005, 0x77)] := by decide

theorem test_W11_set_registers : getRegisters (setRegisters ⟨1, 2, 3, 4, 0x00, 0xABCD⟩ State.reset) = ⟨1, 2, 3, 4, 0x00, 0xABCD⟩ := by
  decide

/-- Writing the unlisted value removes the cell: equal memories are equal data. -/
theorem test_memory_canonical : ((State.reset.writeByte 0x0005 0x77).writeByte 0x0005 0x00).mem = [] := by decide

/-- The placement the host uses runs exactly that instruction. -/
theorem test_withFetchWord : fetchInstr (State.reset.withFetchWord 24 0x1234AD) = .ldaAbs 0x1234 ∧
    fetchInstr (State.reset.withFetchWord 8 0xAD) = .ldaAbs 0x0000 := by decide

theorem test_core : Sys2Proof.core.reset = State.reset := by rfl

/-! ### Witnesses: the forms each per-instruction obligation speaks of, every constructor of them -/

theorem witness_LoadsCopyAByteToTheRegister :
    allHave .lda [
    .ldaIzx 0x80, .ldaZp 0x80, .ldaImm 0x80, .ldaAbs 0x12FF, .ldaIzy 0x80, .ldaZpx 0x80, .ldaAby 0x12FF, .ldaAbx 0x12FF] = true ∧
    allHave .ldx [
    .ldxImm 0x80, .ldxZp 0x80, .ldxAbs 0x12FF, .ldxZpy 0x80, .ldxAby 0x12FF] = true ∧
    allHave .ldy [
    .ldyImm 0x80, .ldyZp 0x80, .ldyAbs 0x12FF, .ldyZpx 0x80, .ldyAbx 0x12FF] = true := by
  decide

theorem witness_StoresWriteTheRegisterToMemory :
    allHave .sta [
    .staIzx 0x80, .staZp 0x80, .staAbs 0x12FF, .staIzy 0x80, .staZpx 0x80, .staAby 0x12FF, .staAbx 0x12FF] = true ∧
    allHave .stx [
    .stxZp 0x80, .stxAbs 0x12FF, .stxZpy 0x80] = true ∧
    allHave .sty [
    .styZp 0x80, .styAbs 0x12FF, .styZpx 0x80] = true := by
  decide

theorem witness_TransfersCopyBetweenRegisters :
    allHave .tax [
    .tax] = true ∧
    allHave .tay [
    .tay] = true ∧
    allHave .txa [
    .txa] = true ∧
    allHave .tya [
    .tya] = true := by
  decide

theorem witness_StackPointerTransfers :
    allHave .tsx [
    .tsx] = true ∧
    allHave .txs [
    .txs] = true := by
  decide

theorem witness_LogicalOperationsOnTheAccumulator :
    allHave .and [
    .andIzx 0x80, .andZp 0x80, .andImm 0x80, .andAbs 0x12FF, .andIzy 0x80, .andZpx 0x80, .andAby 0x12FF, .andAbx 0x12FF] = true ∧
    allHave .eor [
    .eorIzx 0x80, .eorZp 0x80, .eorImm 0x80, .eorAbs 0x12FF, .eorIzy 0x80, .eorZpx 0x80, .eorAby 0x12FF, .eorAbx 0x12FF] = true ∧
    allHave .ora [
    .oraIzx 0x80, .oraZp 0x80, .oraImm 0x80, .oraAbs 0x12FF, .oraIzy 0x80, .oraZpx 0x80, .oraAby 0x12FF, .oraAbx 0x12FF] = true := by
  decide

theorem witness_BitTestReadsTheOperandBits :
    allHave .bit [
    .bitZp 0x80, .bitAbs 0x12FF] = true := by
  decide

theorem witness_AddWithCarryIsBinary :
    allHave .adc [
    .adcIzx 0x80, .adcZp 0x80, .adcImm 0x80, .adcAbs 0x12FF, .adcIzy 0x80, .adcZpx 0x80, .adcAby 0x12FF, .adcAbx 0x12FF] = true := by
  decide

theorem witness_SubtractWithBorrowAddsTheComplement :
    allHave .sbc [
    .sbcIzx 0x80, .sbcZp 0x80, .sbcImm 0x80, .sbcAbs 0x12FF, .sbcIzy 0x80, .sbcZpx 0x80, .sbcAby 0x12FF, .sbcAbx 0x12FF] = true := by
  decide

theorem witness_ShiftsAndRotatesMoveOneBit :
    allHave .asl [
    .aslZp 0x80, .aslAcc, .aslAbs 0x12FF, .aslZpx 0x80, .aslAbx 0x12FF] = true ∧
    allHave .lsr [
    .lsrZp 0x80, .lsrAcc, .lsrAbs 0x12FF, .lsrZpx 0x80, .lsrAbx 0x12FF] = true ∧
    allHave .rol [
    .rolZp 0x80, .rolAcc, .rolAbs 0x12FF, .rolZpx 0x80, .rolAbx 0x12FF] = true ∧
    allHave .ror [
    .rorZp 0x80, .rorAcc, .rorAbs 0x12FF, .rorZpx 0x80, .rorAbx 0x12FF] = true := by
  decide

theorem witness_MemoryIncrementAndDecrementWrap :
    allHave .inc [
    .incZp 0x80, .incAbs 0x12FF, .incZpx 0x80, .incAbx 0x12FF] = true ∧
    allHave .dec [
    .decZp 0x80, .decAbs 0x12FF, .decZpx 0x80, .decAbx 0x12FF] = true := by
  decide

theorem witness_IndexIncrementAndDecrementWrap :
    allHave .inx [
    .inx] = true ∧
    allHave .iny [
    .iny] = true ∧
    allHave .dex [
    .dex] = true ∧
    allHave .dey [
    .dey] = true := by
  decide

theorem witness_ComparesSetCarryZeroAndNegative :
    allHave .cmp [
    .cmpIzx 0x80, .cmpZp 0x80, .cmpImm 0x80, .cmpAbs 0x12FF, .cmpIzy 0x80, .cmpZpx 0x80, .cmpAby 0x12FF, .cmpAbx 0x12FF] = true ∧
    allHave .cpx [
    .cpxImm 0x80, .cpxZp 0x80, .cpxAbs 0x12FF] = true ∧
    allHave .cpy [
    .cpyImm 0x80, .cpyZp 0x80, .cpyAbs 0x12FF] = true := by
  decide

theorem witness_BranchesTestOneFlag :
    allHave .bcc [
    .bcc 0x80] = true ∧
    allHave .bcs [
    .bcs 0x80] = true ∧
    allHave .beq [
    .beq 0x80] = true ∧
    allHave .bne [
    .bne 0x80] = true ∧
    allHave .bmi [
    .bmi 0x80] = true ∧
    allHave .bpl [
    .bpl 0x80] = true ∧
    allHave .bvc [
    .bvc 0x80] = true ∧
    allHave .bvs [
    .bvs 0x80] = true := by
  decide

theorem witness_JumpSetsPcToTheEffectiveAddress :
    allHave .jmp [
    .jmpAbs 0x12FF, .jmpInd 0x12FF] = true := by
  decide

theorem witness_CallsAndReturns :
    allHave .jsr [
    .jsrAbs 0x12FF] = true ∧
    allHave .rts [
    .rts] = true ∧
    allHave .rti [
    .rti] = true := by
  decide

theorem witness_PushesPullsAndBreak :
    allHave .pha [
    .pha] = true ∧
    allHave .php [
    .php] = true ∧
    allHave .pla [
    .pla] = true ∧
    allHave .plp [
    .plp] = true ∧
    allHave .brk [
    .brk] = true ∧
    allHave .nop [
    .nop] = true := by
  decide

theorem witness_FlagInstructionsWriteOneBit :
    allHave .clc [
    .clc] = true ∧
    allHave .sec [
    .sec] = true ∧
    allHave .cli [
    .cli] = true ∧
    allHave .sei [
    .sei] = true ∧
    allHave .cld [
    .cld] = true ∧
    allHave .sed [
    .sed] = true ∧
    allHave .clv [
    .clv] = true := by
  decide

theorem witness_IllegalOpcodesCompleteWithTheOpenEffect :
    allHave .illegal [
    .kil02, .sloIzx03 0x80, .nopZp04 0x80, .sloZp07 0x80, .ancImm0B 0x80, .nopAbs0C 0x12FF, .sloAbs0F 0x12FF, .kil12,
    .sloIzy13 0x80, .nopZpx14 0x80, .sloZpx17 0x80, .nopImp1A, .sloAby1B 0x12FF, .nopAbx1C 0x12FF, .sloAbx1F 0x12FF, .kil22,
    .rlaIzx23 0x80, .rlaZp27 0x80, .ancImm2B 0x80, .rlaAbs2F 0x12FF, .kil32, .rlaIzy33 0x80, .nopZpx34 0x80, .rlaZpx37 0x80,
    .nopImp3A, .rlaAby3B 0x12FF, .nopAbx3C 0x12FF, .rlaAbx3F 0x12FF, .kil42, .sreIzx43 0x80, .nopZp44 0x80, .sreZp47 0x80,
    .alrImm4B 0x80, .sreAbs4F 0x12FF, .kil52, .sreIzy53 0x80, .nopZpx54 0x80, .sreZpx57 0x80, .nopImp5A, .sreAby5B 0x12FF,
    .nopAbx5C 0x12FF, .sreAbx5F 0x12FF, .kil62, .rraIzx63 0x80, .nopZp64 0x80, .rraZp67 0x80, .arrImm6B 0x80,
    .rraAbs6F 0x12FF, .kil72, .rraIzy73 0x80, .nopZpx74 0x80, .rraZpx77 0x80, .nopImp7A, .rraAby7B 0x12FF, .nopAbx7C 0x12FF,
    .rraAbx7F 0x12FF, .nopImm80 0x80, .nopImm82 0x80, .saxIzx83 0x80, .saxZp87 0x80, .nopImm89 0x80, .xaaImm8B 0x80,
    .saxAbs8F 0x12FF, .kil92, .ahxIzy93 0x80, .saxZpy97 0x80, .tasAby9B 0x12FF, .shyAbx9C 0x12FF, .shxAby9E 0x12FF,
    .ahxAby9F 0x12FF, .laxIzxA3 0x80, .laxZpA7 0x80, .laxImmAB 0x80, .laxAbsAF 0x12FF, .kilB2, .laxIzyB3 0x80,
    .laxZpyB7 0x80, .lasAbyBB 0x12FF, .laxAbyBF 0x12FF, .nopImmC2 0x80, .dcpIzxC3 0x80, .dcpZpC7 0x80, .axsImmCB 0x80,
    .dcpAbsCF 0x12FF, .kilD2, .dcpIzyD3 0x80, .nopZpxD4 0x80, .dcpZpxD7 0x80, .nopImpDA, .dcpAbyDB 0x12FF, .nopAbxDC 0x12FF,
    .dcpAbxDF 0x12FF, .nopImmE2 0x80, .iscIzxE3 0x80, .iscZpE7 0x80, .sbcImmEB 0x80, .iscAbsEF 0x12FF, .kilF2,
    .iscIzyF3 0x80, .nopZpxF4 0x80, .iscZpxF7 0x80, .nopImpFA, .iscAbyFB 0x12FF, .nopAbxFC 0x12FF, .iscAbxFF 0x12FF] = true := by
  decide

/-! ### Witnesses: states and operands at the edges of the other obligations' clauses -/

/-- A state with every byte of interest written, every register different, in canonical form. -/
def sample : State := boot ⟨0x81, 0x7F, 0xFF, 0x01, 0xA1, 0x0200⟩
  [(0x00FF, 0x34), (0x0000, 0x12), (0x0100, 0x56), (0x0101, 0x78), (0x0200, 0xA9), (0x0201, 0x10), (0xFFFA, 0x00), (0xFFFB, 0x80),
    (0xFFFE, 0x00), (0xFFFF, 0x90)]

/-- The same with interrupts disabled. -/
def masked : State := sample.withFlag .I true

theorem witness_DecodeOfEncodeIsTheInstruction : (Instr.ldaAby 0xFFFF).wf = true := by decide

theorem witness_EncodeOfDecodeIsTheBytes : decodeBytes [0xB9, 0xFF, 0x00, 0xEA] = .ok (.ldaAby 0x00FF, [0xEA]) := by rfl

theorem witness_TableHoldsTheLegalOpcodes : ⟨"CLC", .clc, [(0x18, .implied, 2, 0)]⟩ ∈ legalRows := by
  simp [legalRows, legalRows1]

theorem witness_TableHoldsTheIllegalOpcodes : (entryOf 0xF2).handler = .illegal ∧
    ⟨"LAS", .absoluteY, 3, some 4, 1, [0xBB]⟩ ∈ illegalRows := by
  refine ⟨by decide, ?_⟩
  simp [illegalRows, illegalRows2]

theorem witness_StepRunsTheDecodedInstruction : (Instr.ldaImm 0x10).wf = true ∧
    decodeBytes (bytesAtPc sample) = .ok (.ldaImm 0x10, [0x00]) := by
  refine ⟨by decide, by rfl⟩

theorem witness_Invariant : sample.Inv ∧ masked.Inv ∧ State.reset.Inv := by
  refine ⟨?_, ?_, ?_⟩ <;> (unfold State.Inv; decide)

theorem witness_StepKeepsTheInvariant : stepShows sample (fun t => Memory.wf t.mem) = true := by decide

/-- A memory out of order, or with an unlisted value written out, does not meet the invariant. -/
theorem witness_Invariant_refuses : ¬(sample.setMem [(5, 1), (3, 1)]).Inv ∧ ¬(sample.setMem [(5, 0)]).Inv ∧
    ¬(sample.setMem [(65536, 1)]).Inv := by
  refine ⟨?_, ?_, ?_⟩ <;> (unfold State.Inv; decide)

theorem witness_CanonicalMemoriesThatReadAlikeAreEqual :
    ((sample.writeByte 0x0300 0x01).writeByte 0x0300 0x00).mem = sample.mem := by decide

/-- Both clauses: a penalty charged, and none. -/
theorem witness_CyclesAreAccounted : (Instr.ldaAbx 0x02FF).entry.penalty = 1 ∧ effAddr (.ldaAbx 0x02FF) sample = 0x037E ∧
    effAddr (.ldaAbx 0x0200) sample = 0x027F ∧ (Instr.staAbx 0x02FF).entry.penalty = 0 := by decide

/-- A pointer at 0xFE and at 0xFF, and a word pointer at xxFE and xxFF, under both settings. -/
theorem witness_PointerModesAddress :
    ([0xFE, 0xFF].map fun b => resolve (.indirectY b) (sample.setReg .Y 0)) = [0x3400, 0x5634] ∧
    ([0xFE, 0xFF].map fun b => resolve (.indirectY b) (boot ⟨0, 0, 0, 0, 0x20, 0⟩ [(0x00FF, 0x34), (0x0000, 0x12), (0x0100, 0x56)]
      { zpPtrWrap := true })) = [0x3400, 0x1234] ∧
    ([0x01FE, 0x00FF].map fun w => resolve (.indirect w) sample) = [0x0000, 0x5634] ∧
    ([0x01FE, 0x00FF].map fun w => resolve (.indirect w) (boot ⟨0, 0, 0, 0, 0x20, 0⟩ [(0x00FF, 0x34), (0x0000, 0x12), (0x0100, 0x56)]
      { jmpIndPageWrap := true })) = [0x0000, 0x1234] := by decide

/-- The instruction at PC has an Immediate operand. -/
theorem witness_ImmediateRelativeAndImpliedAddress : fetchInstr sample = .ldaImm 0x10 ∧ (Instr.ldaImm 0x10).operand = .immediate 0x10 := by
  decide

theorem witness_LogicalOperations_functions :
    ((Instr.andImm 0x80).handler, Bool.and) ∈ [(Handler.and, Bool.and), (.eor, Bool.xor), (.ora, Bool.or)] := List.Mem.head _

theorem witness_Shifts_functions (f g h k : Nat → Nat → Nat) :
    (Instr.aslAcc.handler, f, 7) ∈ [(Handler.asl, f, 7), (.lsr, g, 0), (.rol, h, 7), (.ror, k, 0)] ∧
    Instr.aslAcc.operand = .accumulator ∧ (Instr.aslZp 0x80).operand ≠ .accumulator := by
  refine ⟨List.Mem.head _, by decide, by decide⟩

theorem witness_DecimalFlagIsNeverRead : (Instr.adcImm 0x10).handler ∉ [Handler.php, .brk, .plp, .rti, .sed, .cld, .illegal] := by decide

/-- A branch taken and one not taken. -/
theorem witness_BranchesTestOneFlag_both : sample.flag .C = true ∧ sample.flag .Z = false := by decide

/-- TSX under both settings. -/
theorem witness_StackPointerTransfers_both : (State.construct { tsxSetsZN := true }).cfg.tsxSetsZN = true ∧
    State.reset.cfg.tsxSetsZN = false := by decide

/-- Both disjuncts. -/
theorem witness_NmiEntersThroughItsVector :
    (((0xFFFA : Word) = 0xFFFA ∧ triggerNmi sample = triggerNmi sample) ∧ (triggerNmi sample).pc = 0x8000) ∧
    (((0xFFFE : Word) = 0xFFFE ∧ interruptEntry irqVector sample = interruptEntry irqVector sample) ∧
      (interruptEntry irqVector sample).pc = 0x9000) := by decide

/-- A request that is masked and one that is taken; a request is taken with I set too where the configuration says so. -/
theorem witness_IrqIsMaskedOrEnters : (masked.flag .I = true ∧ masked.cfg.irqMaskedByI = true) ∧
    ¬(sample.flag .I = true ∧ sample.cfg.irqMaskedByI = true) ∧
    ¬((boot ⟨0, 0, 0, 0, 0x24, 0⟩ [] { irqMaskedByI := false }).flag .I = true ∧
      (boot ⟨0, 0, 0, 0, 0x24, 0⟩ [] { irqMaskedByI := false }).cfg.irqMaskedByI = true) := by decide

theorem witness_InterruptThenReturnRestores : triggerIrq sample = triggerIrq sample ∧
    ¬(sample.flag .I = true ∧ sample.cfg.irqMaskedByI = true) := by decide

/-- PLP, RTI and another legal instruction, from a state whose Unused flag is set. -/
theorem witness_UnusedFlagSurvives : sample.flag .U = true ∧ Instr.plp.handler ≠ .illegal ∧ Instr.rti.handler ≠ .illegal ∧
    Instr.pha.handler ≠ .illegal ∧ Instr.pha.handler ≠ .plp ∧ Instr.pha.handler ≠ .rti := by decide

theorem witness_RegistersChangeOnlyByTheirInstructions : (Instr.staAbs 0xFFFF).handler ≠ .illegal ∧
    (Instr.staAbs 0xFFFF).handler ∉ [Handler.adc, .sbc, .and, .eor, .ora, .lda, .pla, .txa, .tya] ∧
    (Instr.staAbs 0xFFFF).operand ≠ .accumulator ∧ (Instr.staAbs 0xFFFF).handler ∉ [Handler.ldx, .tax, .tsx, .inx, .dex] ∧
    (Instr.staAbs 0xFFFF).handler ∉ [Handler.ldy, .tay, .iny, .dey] ∧
    (Instr.staAbs 0xFFFF).handler ∉ [Handler.pha, .php, .pla, .plp, .jsr, .rts, .rti, .brk, .txs] := by decide

/-- Each clause at its bound: images of 65,535 and 65,536 bytes, ranges that end at 65,536 and at 65,537. -/
theorem witness_LoadingAndRangesFailWithoutMutation :
    65536 ≤ (List.replicate 65536 (0 : Byte)).length ∧ (List.replicate 65535 (0 : Byte)).length < 65536 ∧
    65536 < (0xFFFF : Word).toNat + [(0x11 : Byte), 0x22].length ∧ (0xFFFE : Word).toNat + [(0x11 : Byte), 0x22].length ≤ 65536 ∧
    65536 < (0xFFFF : Word).toNat + 2 ∧ (0xFFFF : Word).toNat + 1 ≤ 65536 := by
  refine ⟨(List.length_replicate).ge, ?_, by decide, by decide, by decide, by decide⟩
  rw [List.length_replicate]; decide

/-- BRK under both settings of each option, from a state with B clear. -/
theorem witness_BreakEntersThroughTheIrqVector : sample.flag .B = false ∧ sample.cfg.brkBBeforePush = false ∧
    (State.construct { brkBBeforePush := true, brkSetsI := true, brkPushOffset := 2 }).cfg.brkBBeforePush = true := by decide

end Sys2Proof.Tests
end

section
/-! PROOFS. Statements of 10_state.md: the canonical memory and the state after reset (R32, R35). -/

namespace Sys2Proof.Machine

/-! ### Canonical memories -/

/-- The canonical form of a memory with a first cell, condition by condition. -/
theorem wfFrom_cons {lo k : Nat} {u : Byte} {rest : Memory} : Memory.wfFrom lo ((k, u) :: rest) = true ↔
    lo ≤ k ∧ k < 65536 ∧ u ≠ Memory.unlisted ∧ Memory.wfFrom (k + 1) rest = true := by
  simp [Memory.wfFrom, and_assoc]

@[simp] theorem read_cons_self (k : Nat) (u : Byte) (rest : Memory) : Memory.read ((k, u) :: rest) k = u := by
  simp [Memory.read]

theorem read_cons_ne {k a : Nat} (h : k ≠ a) (u : Byte) (rest : Memory) :
    Memory.read ((k, u) :: rest) a = Memory.read rest a := by
  simp [Memory.read, h]

/-- The first cell of a canonical memory is visible: a memory that lists only higher addresses reads otherwise there. -/
theorem read_head_ne_of_floor {lo k : Nat} {u : Byte} {rest m : Memory} (h : Memory.wfFrom lo ((k, u) :: rest) = true)
    (hm : Memory.wfFrom (k + 1) m = true) : Memory.read ((k, u) :: rest) k ≠ Memory.read m k := by
  obtain ⟨-, -, hu, -⟩ := wfFrom_cons.mp h
  rwa [read_cons_self, read_of_lt_floor (k + 1) k m (Nat.lt_succ_self k) hm]

/-- The first cell of one of two canonical memories that read alike has an address no higher than the other's first cell. -/
theorem head_le_of_reads_alike {lo lo' k k' : Nat} {u u' : Byte} {rest rest' : Memory}
    (h : Memory.wfFrom lo ((k, u) :: rest) = true) (h' : Memory.wfFrom lo' ((k', u') :: rest') = true)
    (heq : ∀ a < 65536, Memory.read ((k, u) :: rest) a = Memory.read ((k', u') :: rest') a) : k' ≤ k := by
  obtain ⟨-, hk, -, -⟩ := wfFrom_cons.mp h
  obtain ⟨-, hk', hu', hrest'⟩ := wfFrom_cons.mp h'
  by_contra hlt
  exact read_head_ne_of_floor h (wfFrom_cons.mpr ⟨by omega, hk', hu', hrest'⟩) (heq k hk)

/-- Canonical memories are extensional: equal readings are equal lists. -/
theorem eq_of_reads_alike {lo : Nat} {m m' : Memory} (h : Memory.wfFrom lo m = true) (h' : Memory.wfFrom lo m' = true)
    (heq : ∀ a < 65536, Memory.read m a = Memory.read m' a) : m = m' := by
  induction m generalizing lo m' with
  | nil =>
    cases m' with
    | nil => rfl
    | cons c rest' =>
      obtain ⟨-, hk, -, -⟩ := wfFrom_cons.mp h'
      exact absurd (heq c.1 hk).symm (read_head_ne_of_floor h' rfl)
  | cons c rest ih =>
    obtain ⟨k, u⟩ := c
    obtain ⟨-, hk, -, hrest⟩ := wfFrom_cons.mp h
    cases m' with
    | nil => exact absurd (heq k hk) (read_head_ne_of_floor h rfl)
    | cons c' rest' =>
      obtain ⟨k', u'⟩ := c'
      obtain ⟨-, -, -, hrest'⟩ := wfFrom_cons.mp h'
      obtain rfl : k = k' := le_antisymm (head_le_of_reads_alike h' h fun a ha => (heq a ha).symm)
        (head_le_of_reads_alike h h' heq)
      obtain rfl : u = u' := by simpa using heq k hk
      have htail : ∀ a < 65536, Memory.read rest a = Memory.read rest' a := by
        intro a ha
        by_cases hka : k = a
        · rw [read_of_lt_floor (k + 1) a rest (by omega) hrest, read_of_lt_floor (k + 1) a rest' (by omega) hrest']
        · simpa [read_cons_ne hka] using heq a ha
      rw [ih hrest hrest' htail]

/-- Settles O11: the first cells of two canonical memories that read alike agree, and so by induction does the rest. -/
theorem canonicalMemoriesThatReadAlikeAreEqual : Obligations.CanonicalMemoriesThatReadAlikeAreEqual := by
  intro s t hs ht heq
  refine eq_of_reads_alike hs ht fun a ha => ?_
  simpa [State.readByte, Nat.mod_eq_of_lt ha] using heq (BitVec.ofNat 16 a)

/-! ### The state after reset -/

/-- Settles O12: the empty memory is canonical. -/
theorem resetMeetsTheInvariant : Obligations.ResetMeetsTheInvariant :=
  ⟨rfl, fun _ => rfl⟩

theorem construct_reg (cfg : Cfg) (r : Reg) : (State.construct cfg).reg r = 0x00 := by cases r <;> rfl

theorem construct_flag (cfg : Cfg) (f : Flag) : (State.construct cfg).flag f = decide (f = .U) := by
  change getFlag f 0x20 = _
  cases f <;> decide

/-- Settles O13: construction's fields, register by register and flag by flag; the empty memory reads as unlisted everywhere. -/
theorem resetValues : Obligations.ResetValues :=
  fun cfg => ⟨construct_reg cfg, rfl, construct_flag cfg, rfl, fun _ => rfl, rfl, rfl⟩

end Sys2Proof.Machine
end

section
/-! PROOFS. The cycle counter is never read (10_state.md R33): every operation of a handler commutes with `addCycles`. -/

namespace Sys2Proof.Machine

variable (s : State) (n : Nat)

theorem addCycles_comm (k : Nat) : (s.addCycles n).addCycles k = (s.addCycles k).addCycles n := by
  simp [State.addCycles, Nat.add_right_comm]

theorem resolve_addCycles (o : Operand) : resolve o (s.addCycles n) = resolve o s := by cases o <;> rfl

theorem contextOf_addCycles (op : Byte) (o : Operand) : contextOf op o (s.addCycles n) = contextOf op o s := by
  simp [contextOf, resolve_addCycles]

theorem ctxRead_addCycles (c : Ctx) : c.read (s.addCycles n) = c.read s := by
  obtain ⟨ea, pc0, o, size⟩ := c
  cases o <;> rfl

theorem writeBack_addCycles (c : Ctx) (v : Byte) : c.writeBack v (s.addCycles n) = (c.writeBack v s).addCycles n := by
  obtain ⟨ea, pc0, o, size⟩ := c
  cases o <;> rfl

theorem shiftWith_addCycles (f : Byte → Bool → Byte × Bool) (c : Ctx) :
    shiftWith f c (s.addCycles n) = (shiftWith f c s).addCycles n := by
  unfold shiftWith
  rw [ctxRead_addCycles, ← writeBack_addCycles]
  rfl

theorem branchIf_addCycles (cond : Bool) (c : Ctx) :
    branchIf cond c (s.addCycles n) = (branchIf cond c s).addCycles n := by
  cases cond <;> rfl

theorem opTsx_addCycles (c : Ctx) : opTsx c (s.addCycles n) = (opTsx c s).addCycles n := by
  unfold opTsx
  rw [addCycles_cfg]
  split <;> rfl

theorem push8_addCycles (v : Byte) : push8 v (s.addCycles n) = (push8 v s).addCycles n := rfl

theorem push16_addCycles (w : Word) : push16 w (s.addCycles n) = (push16 w s).addCycles n := by
  simp only [push16, push8_addCycles]

theorem pull8_addCycles : pull8 (s.addCycles n) = ((pull8 s).1, (pull8 s).2.addCycles n) := rfl

theorem pull16_addCycles : pull16 (s.addCycles n) = ((pull16 s).1, (pull16 s).2.addCycles n) := by
  simp only [pull16, pull8_addCycles]

theorem enterVector_addCycles (ret : Word) (pushed live : Byte) (vec : Word) :
    enterVector ret pushed live vec (s.addCycles n) = (enterVector ret pushed live vec s).addCycles n := by
  unfold enterVector
  rw [push16_addCycles, push8_addCycles]
  rfl

theorem returnFromInterrupt_addCycles : returnFromInterrupt (s.addCycles n) = (returnFromInterrupt s).addCycles n := by
  simp only [returnFromInterrupt, pull8_addCycles, pull16_addCycles]
  rfl

theorem opJsr_addCycles (c : Ctx) : opJsr c (s.addCycles n) = (opJsr c s).addCycles n := by
  simp only [opJsr, push16_addCycles]
  rfl

theorem opRts_addCycles (c : Ctx) : opRts c (s.addCycles n) = (opRts c s).addCycles n := by
  simp only [opRts, pull16_addCycles]
  rfl

/-- No handler reads the cycle counter. Most only move fields of the state, which commutes by definition; the ones that branch on
their operand, on a flag or on the configuration, and the chains of pushes and pulls, have a lemma of their own above. -/
theorem handlerOf_addCycles (h : Handler) (op : Byte) (c : Ctx) :
    handlerOf h op c (s.addCycles n) = (handlerOf h op c s).addCycles n := by
  cases h with
  | asl | lsr | rol | ror => exact shiftWith_addCycles s n _ c
  | bcc | bcs | beq | bmi | bne | bpl | bvc | bvs => exact branchIf_addCycles s n _ c
  | tsx => exact opTsx_addCycles s n c
  | brk => exact enterVector_addCycles s n _ _ _ _
  | rti => exact returnFromInterrupt_addCycles s n
  | jsr => exact opJsr_addCycles s n c
  | rts => exact opRts_addCycles s n c
  | _ => rfl

/-- The engine around a handler that does not read the cycle counter does not read it either. -/
theorem perform_addCycles {h : Ctx → State → State} (hh : ∀ c t, h c (t.addCycles n) = (h c t).addCycles n) (op : Byte)
    (o : Operand) : perform op o h (s.addCycles n) = (perform op o h s).addCycles n := by
  unfold perform
  rw [contextOf_addCycles, resolve_addCycles, show (s.addCycles n).setPc (nextPc op (s.addCycles n)) =
    (s.setPc (nextPc op s)).addCycles n from rfl, hh]
  exact addCycles_comm _ _ _

/-- Settles O15: handlers and engine commute with adding to the cycle counter. -/
theorem cyclesAreNeverRead : Obligations.CyclesAreNeverRead := by
  intro i s n
  refine ⟨_, exec_eq i s, ?_⟩
  exact (exec_eq i (s.addCycles n)).trans
    (congrArg _ (perform_addCycles s n (fun c t => handlerOf_addCycles t n i.handler i.opcode c) i.opcode i.operand))

end Sys2Proof.Machine
end

section
/-! PROOFS. The stack primitives in numbers (10_state.md R28 to R31). -/

namespace Sys2Proof.Machine

variable (s : State) (v : Byte) (w : Word)

/-- The stack slot `n` above the pointer, counted inside the stack page. -/
theorem stackSlot_eq (q : Byte) (n : Nat) :
    BitVec.ofNat 16 (0x0100 + (q.toNat + n) % 256) = stackAddr (q + BitVec.ofNat 8 n) := by
  apply BitVec.eq_of_toNat_eq
  rw [stackAddr_toNat, BitVec.toNat_ofNat, BitVec.toNat_add, BitVec.toNat_ofNat]
  omega

theorem push8_frame : Frame [.S] [] [stackAddr (s.reg .S)] s (push8 v s) :=
  ⟨fun r hr => push8_reg s v (by simpa using hr), fun f _ => push8_flag s v f,
    fun a ha => by rw [push8_readByte, if_neg (by simpa using ha)], push8_cfg s v⟩

theorem pull8_frame : Frame [.S] [] [] s (pull8 s).2 :=
  ⟨fun r hr => pull8_reg s (by simpa using hr), fun f _ => pull8_flag s f, fun a _ => pull8_readByte s a, pull8_cfg s⟩

theorem push16_frame : Frame [.S] [] [stackAddr (s.reg .S), stackAddr (s.reg .S - 1)] s (push16 w s) := by
  refine ⟨fun r hr => push16_reg s w (by simpa using hr), fun f _ => push16_flag s f w, fun a ha => ?_, push16_cfg s w⟩
  obtain ⟨hhi, hlo⟩ : a ≠ stackAddr (s.reg .S) ∧ a ≠ stackAddr (s.reg .S - 1) := by simpa using ha
  rw [push16_readByte, if_neg hlo, if_neg hhi]

theorem pull16_frame : Frame [.S] [] [] s (pull16 s).2 :=
  ⟨fun r hr => pull16_reg s (by simpa using hr), fun f _ => pull16_flag s f, fun a _ => pull16_readByte s a, pull16_cfg s⟩

/-- Two neighbouring slots of the stack page are distinct, whatever the pointer. -/
theorem stackAddr_ne_pred (q : Byte) : stackAddr q ≠ stackAddr (q - 1) := by
  rw [Ne, stackAddr_inj]
  bv_omega

theorem push16_readByte_hi : (push16 w s).readByte (stackAddr (s.reg .S)) = hiByte w := by
  rw [push16_readByte, if_neg (stackAddr_ne_pred _), if_pos rfl]

theorem push16_readByte_lo : (push16 w s).readByte (stackAddr (s.reg .S - 1)) = loByte w := by
  rw [push16_readByte, if_pos rfl]

/-- A word just pushed is the word pulled (R31), for every stack pointer. -/
theorem pull16_push16_value : (pull16 (push16 w s)).1 = w := by
  have hlo : s.reg .S - 2 + 1 = s.reg .S - 1 := by bv_omega
  have hhi : s.reg .S - 2 + 2 = s.reg .S := by bv_omega
  rw [pull16_value, push16_S, hlo, hhi, push16_readByte_hi, push16_readByte_lo, mkWord_hiByte_loByte]

theorem pull16_push16_S : (pull16 (push16 w s)).2.reg .S = s.reg .S := by
  rw [pull16_S, push16_S]
  bv_omega

/-- Settles O18: the laws of the four primitives, with each slot of the statement read as a `stackAddr`. -/
theorem pushesAndPullsStayInTheStackPage : Obligations.PushesAndPullsStayInTheStackPage := by
  intro s v w
  have h0 : s.reg .S + BitVec.ofNat 8 0 = s.reg .S := by bv_omega
  have h255 : s.reg .S + BitVec.ofNat 8 255 = s.reg .S - 1 := by bv_omega
  simp only [stackSlot_eq, h0, h255]
  refine ⟨⟨?_, ?_, push8_frame s v, push8_pc s v⟩, ⟨pull8_value s, ?_, pull8_frame s, pull8_pc s⟩,
    ⟨?_, ?_, ?_, push16_frame s w, push16_pc s w⟩, ⟨?_, ?_, pull16_frame s, pull16_pc s⟩,
    pull16_push16_value s w, pull16_push16_S s w⟩
  · rw [push8_readByte, if_pos rfl]
  · rw [push8_S]; bv_omega
  · rw [pull8_S]; bv_omega
  · rw [push16_readByte_hi, hiByte_toNat]
  · rw [push16_readByte_lo, loByte_toNat]
  · rw [push16_S]; bv_omega
  · rw [pull16_value, mkWord_toNat]; rfl
  · rw [pull16_S]; bv_omega

end Sys2Proof.Machine
end

section
/-! PROOFS. Which flags a handler writes (10_state.md R25, R26). -/

namespace Sys2Proof.Machine

variable {s t : State}

/-! ### The flags that each shared computation writes -/

theorem withFlag_keepsFlags (s : State) (f : Flag) (b : Bool) : KeepsFlags [f] s (s.withFlag f b) :=
  fun _ hg => withFlag_flag_ne s b (by simpa using hg)

/-- `SetZN` after operations that write no flag. -/
theorem setZN_keepsFlags (v : Byte) (h : ∀ f, t.flag f = s.flag f) : KeepsFlags [.Z, .N] s (setZN v t) := by
  intro f hf
  obtain ⟨hz, hn⟩ : f ≠ .Z ∧ f ≠ .N := by simpa using hf
  rw [setZN_flag t v hz hn, h]

theorem opBit_keepsFlags (c : Ctx) (s : State) : KeepsFlags [.Z, .V, .N] s (opBit c s) := by
  intro f hf
  obtain ⟨hz, hv, hn⟩ : f ≠ .Z ∧ f ≠ .V ∧ f ≠ .N := by simpa using hf
  simp [opBit, hz, hv, hn]

theorem addWithCarry_keepsFlags (m : Byte) (s : State) : KeepsFlags [.C, .Z, .V, .N] s (addWithCarry m s) := by
  intro f hf
  obtain ⟨hc, hz, hv, hn⟩ : f ≠ .C ∧ f ≠ .Z ∧ f ≠ .V ∧ f ≠ .N := by simpa using hf
  exact addWithCarry_flag s m hc hv hz hn

theorem compareWith_keepsFlags (q m : Byte) (s : State) : KeepsFlags [.C, .Z, .N] s (compareWith q m s) := by
  intro f hf
  obtain ⟨hc, hz, hn⟩ : f ≠ .C ∧ f ≠ .Z ∧ f ≠ .N := by simpa using hf
  exact compareWith_flag s m q hc hz hn

theorem shiftWith_keepsFlags (g : Byte → Bool → Byte × Bool) (c : Ctx) (s : State) :
    KeepsFlags [.C, .Z, .N] s (shiftWith g c s) := by
  intro f hf
  obtain ⟨hc, hz, hn⟩ : f ≠ .C ∧ f ≠ .Z ∧ f ≠ .N := by simpa using hf
  simp [shiftWith, hc, hz, hn]

/-- TSX writes Z and N under its option only (R120). -/
theorem opTsx_keepsFlags (c : Ctx) (s : State) : KeepsFlags (flagsWritten .tsx s.cfg) s (opTsx c s) := by
  intro f hf
  cases hcfg : s.cfg.tsxSetsZN
  · simp [opTsx, hcfg]
  · obtain ⟨hz, hn⟩ : f ≠ .Z ∧ f ≠ .N := by simpa [flagsWritten, hcfg] using hf
    simp [opTsx, hcfg, hz, hn]

/-- BRK writes B, and I under its option only (R194). -/
theorem opBrk_keepsFlags (c : Ctx) (s : State) : KeepsFlags (flagsWritten .brk s.cfg) s (opBrk c s) := by
  intro f hf
  cases hcfg : s.cfg.brkSetsI
  · have hb : f ≠ .B := by simpa [flagsWritten, hcfg] using hf
    simp [opBrk, hcfg, hb, State.flag]
  · obtain ⟨hi, hb⟩ : f ≠ .I ∧ f ≠ .B := by simpa [flagsWritten, hcfg] using hf
    simp [opBrk, hcfg, hi, hb, State.flag]

/-- Nothing is said of the flags of an operation that may write all eight. -/
theorem keepsFlags_all (s t : State) : KeepsFlags [.C, .Z, .I, .D, .B, .U, .V, .N] s t :=
  fun f hf => absurd (by cases f <;> decide) hf

/-! ### The handlers -/

/-- A handler leaves every flag that the table of R26 does not list for it. -/
theorem handlerOf_keepsFlags (h : Handler) (op : Byte) (c : Ctx) (s : State) :
    KeepsFlags (flagsWritten h s.cfg) s (handlerOf h op c s) := by
  cases h with
  | adc | sbc => exact addWithCarry_keepsFlags _ s
  | cmp | cpx | cpy => exact compareWith_keepsFlags _ _ s
  | asl | lsr | rol | ror => exact shiftWith_keepsFlags _ c s
  | lda | ldx | ldy | tax | tay | txa | tya | and | eor | ora | inx | iny | dex | dey =>
    exact setZN_keepsFlags _ fun f => setReg_flag s _ _ f
  | inc | dec => exact setZN_keepsFlags _ fun f => writeByte_flag s _ f _
  | pla => exact setZN_keepsFlags _ fun f => (setReg_flag _ _ _ f).trans (pull8_flag s f)
  | bit => exact opBit_keepsFlags c s
  | tsx => exact opTsx_keepsFlags c s
  | brk => exact opBrk_keepsFlags c s
  | clc | sec | cli | sei | cld | sed | clv => exact withFlag_keepsFlags s _ _
  | plp | rti | illegal => exact keepsFlags_all s _
  | bcc | bcs | beq | bne | bmi | bpl | bvc | bvs => exact fun f _ => branchIf_flag s f _ c
  | sta | stx | sty | jmp | nop => exact fun _ _ => rfl
  | txs => exact fun f _ => setReg_flag s _ _ f
  | pha | php => exact fun f _ => push8_flag s _ f
  | jsr => exact fun f _ => (setPc_flag _ f _).trans (push16_flag s f _)
  | rts => exact fun f _ => (setPc_flag _ f _).trans (pull16_flag s f)

theorem completes_keepsFlags (i : Instr) (s : State) :
    Completes i s fun t => KeepsFlags (flagsWritten i.handler s.cfg) s t :=
  completes_of_perform fun f hf => by
    rw [perform_flag]
    exact handlerOf_keepsFlags i.handler i.opcode (contextOf i.opcode i.operand s) (s.setPc (nextPc i.opcode s)) f hf

/-- Settles O53: the engine around the handler writes no flag, and the handler only those of R26. -/
theorem flagsChangeOnlyAsTheTableSays : Obligations.FlagsChangeOnlyAsTheTableSays :=
  completes_keepsFlags

/-! ### The Unused flag -/

/-- R26 lists the Unused flag for PLP and RTI alone. -/
theorem U_notMem_flagsWritten {h : Handler} (cfg : Cfg) (hill : h ≠ .illegal) (hpull : ¬(h = .plp ∨ h = .rti)) :
    .U ∉ flagsWritten h cfg := by
  cases h with
  | plp => exact absurd (.inl rfl) hpull
  | rti => exact absurd (.inr rfl) hpull
  | illegal => exact absurd rfl hill
  | tsx => cases htsx : cfg.tsxSetsZN <;> simp [flagsWritten, htsx]
  | brk => cases hbrk : cfg.brkSetsI <;> simp [flagsWritten, hbrk]
  | _ => simp [flagsWritten]

/-- PLP and RTI overwrite `P` with the byte they pull first. -/
theorem completes_pulls_p {i : Instr} (hi : i.handler = .plp ∨ i.handler = .rti) (s : State) :
    Completes i s fun t => t.p = s.readByte (stackAddr (s.reg .S + 1)) := by
  refine completes_of_perform ?_
  obtain hi | hi := hi
  · simp [hi, handled, handlerOf, opPlp]
  · simp [hi, handled, handlerOf, opRti]

theorem completes_flag_U {i : Instr} {s : State} (hU : s.flag .U = true) (hill : i.handler ≠ .illegal) :
    Completes i s fun t => t.flag .U =
      if i.handler = .plp ∨ i.handler = .rti then (s.readByte (stackAddr (s.reg .S + 1))).getLsbD 5 else true := by
  by_cases hpull : i.handler = .plp ∨ i.handler = .rti
  · obtain ⟨t, ht, hp⟩ := completes_pulls_p hpull s
    rw [if_pos hpull]
    exact ⟨t, ht, congrArg (getFlag .U) hp⟩
  · obtain ⟨t, ht, hkeep⟩ := completes_keepsFlags i s
    rw [if_neg hpull]
    exact ⟨t, ht, (hkeep .U (U_notMem_flagsWritten s.cfg hill hpull)).trans hU⟩

theorem interruptEntry_flag_U (vec : Word) (hU : s.flag .U = true) : (interruptEntry vec s).flag .U = true := by
  rw [State.flag, interruptEntry_p, getFlag_setFlag_ne true (by decide)]
  exact hU

theorem triggerIrq_flag_U (hU : s.flag .U = true) : (triggerIrq s).flag .U = true := by
  unfold triggerIrq
  split
  · exact hU
  · exact interruptEntry_flag_U irqVector hU

/-- Settles O54: only PLP and RTI have the Unused flag in their row of R26, and interrupt entry writes only I. -/
theorem unusedFlagSurvives : Obligations.UnusedFlagSurvives :=
  fun _ _ hU hill => ⟨completes_flag_U hU hill, interruptEntry_flag_U nmiVector hU, triggerIrq_flag_U hU⟩

end Sys2Proof.Machine
end

section
/-! PROOFS. Which 8-bit registers a handler writes (10_state.md R21 to R23). -/

namespace Sys2Proof.Machine

/-- The 8-bit registers that the handler `h` with operand `o` may write (R21 to R23); an illegal opcode, any (R210). -/
def regsWritten (h : Handler) (o : Operand) : List Reg :=
  match h with
  | .adc | .sbc | .and | .eor | .ora | .lda | .txa | .tya => [.A]
  | .asl | .lsr | .rol | .ror => if o = .accumulator then [.A] else []
  | .ldx | .tax | .tsx | .inx | .dex => [.X]
  | .ldy | .tay | .iny | .dey => [.Y]
  | .pha | .php | .plp | .jsr | .rts | .rti | .brk | .txs => [.S]
  | .pla => [.A, .S]
  | .illegal => [.A, .X, .Y, .S]
  | .sta | .stx | .sty | .inc | .dec | .bit | .cmp | .cpx | .cpy | .bcc | .bcs | .beq | .bne | .bmi | .bpl | .bvc | .bvs
  | .jmp | .nop | .clc | .sec | .cli | .sei | .cld | .sed | .clv => []

theorem setReg_keepsRegs (s : State) (r : Reg) (v : Byte) : KeepsRegs [r] s (s.setReg r v) :=
  fun _ hr => reg_setReg_ne s v (by simpa using hr)

theorem setZN_setReg_keepsRegs (s : State) (v w : Byte) (r : Reg) : KeepsRegs [r] s (setZN v (s.setReg r w)) :=
  fun r' hr => (setZN_reg (s.setReg r w) r' v).trans (setReg_keepsRegs s r w r' hr)

theorem addWithCarry_keepsRegs (m : Byte) (s : State) : KeepsRegs [.A] s (addWithCarry m s) :=
  fun _ hr => addWithCarry_reg s m (by simpa using hr)

/-- A shift writes the accumulator in the Accumulator mode only (R150). -/
theorem shiftWith_keepsRegs (g : Byte → Bool → Byte × Bool) (c : Ctx) (s : State) :
    KeepsRegs (if c.operand = .accumulator then [.A] else []) s (shiftWith g c s) := by
  intro r hr
  by_cases hc : c.operand = .accumulator
  · have hA : r ≠ .A := by simpa [hc] using hr
    simp [shiftWith, hA]
  · simp [shiftWith, writeBack_memory _ _ _ hc]

theorem opPla_keepsRegs (c : Ctx) (s : State) : KeepsRegs [.A, .S] s (opPla c s) := by
  intro r hr
  obtain ⟨hA, hS⟩ : r ≠ .A ∧ r ≠ .S := by simpa using hr
  simp [opPla, hA, hS]

theorem opTsx_keepsRegs (c : Ctx) (s : State) : KeepsRegs [.X] s (opTsx c s) := by
  unfold opTsx
  split
  · exact setZN_setReg_keepsRegs s _ _ .X
  · exact setReg_keepsRegs s .X _

/-- Nothing is said of the registers of an operation that may write all four. -/
theorem keepsRegs_all (s t : State) : KeepsRegs [.A, .X, .Y, .S] s t :=
  fun r hr => absurd (by cases r <;> decide) hr

/-- A handler leaves every 8-bit register outside `regsWritten`. -/
theorem handlerOf_keepsRegs (h : Handler) (op : Byte) (c : Ctx) (s : State) :
    KeepsRegs (regsWritten h c.operand) s (handlerOf h op c s) := by
  cases h with
  | adc | sbc => exact addWithCarry_keepsRegs _ s
  | and | eor | ora | lda | txa | tya => exact setZN_setReg_keepsRegs s _ _ .A
  | ldx | tax | inx | dex => exact setZN_setReg_keepsRegs s _ _ .X
  | ldy | tay | iny | dey => exact setZN_setReg_keepsRegs s _ _ .Y
  | tsx => exact opTsx_keepsRegs c s
  | txs => exact setReg_keepsRegs s .S _
  | asl | lsr | rol | ror => exact shiftWith_keepsRegs _ c s
  | pha | php => exact (push8_frame s _).1
  | plp => exact fun r hr => (setP_reg _ r _).trans ((pull8_frame s).1 r hr)
  | pla => exact opPla_keepsRegs c s
  | jsr => exact fun r hr => (setPc_reg _ r _).trans ((push16_frame s _).1 r hr)
  | rts => exact fun r hr => (setPc_reg _ r _).trans ((pull16_frame s).1 r hr)
  | rti => exact fun r hr => returnFromInterrupt_reg s (by simpa [regsWritten] using hr)
  | brk => exact fun r hr => enterVector_reg s _ _ _ _ (by simpa [regsWritten] using hr)
  | illegal => exact keepsRegs_all s _
  | sta | stx | sty => exact fun r _ => writeByte_reg s r _ _
  | inc | dec => exact fun r _ => (setZN_reg _ r _).trans (writeByte_reg s r _ _)
  | bit => exact fun r _ => (setNVBits_reg _ r _).trans (withFlag_reg s r _ _)
  | cmp | cpx | cpy => exact fun r _ => compareWith_reg s r _ _
  | bcc | bcs | beq | bne | bmi | bpl | bvc | bvs => exact fun r _ => branchIf_reg s r _ c
  | jmp => exact fun r _ => setPc_reg s r _
  | nop => exact fun _ _ => rfl
  | clc | sec | cli | sei | cld | sed | clv => exact fun r _ => withFlag_reg s r _ _

theorem completes_keepsRegs (i : Instr) (s : State) :
    Completes i s fun t => KeepsRegs (regsWritten i.handler i.operand) s t :=
  completes_of_perform fun r hr => by
    rw [perform_reg, ← setPc_reg s r (nextPc i.opcode s)]
    exact handlerOf_keepsRegs i.handler i.opcode (contextOf i.opcode i.operand s) (s.setPc (nextPc i.opcode s)) r hr

/-! ### The lists of R21 to R23 -/

/-- The handlers that the rules name as writers of a register in every mode they have. -/
def writersOf : Reg → List Handler
  | .A => [.adc, .sbc, .and, .eor, .ora, .lda, .pla, .txa, .tya]
  | .X => [.ldx, .tax, .tsx, .inx, .dex]
  | .Y => [.ldy, .tay, .iny, .dey]
  | .S => [.pha, .php, .pla, .plp, .jsr, .rts, .rti, .brk, .txs]

/-- A register that a legal handler may write is one the rules name it for; the Accumulator forms of the shifts write A besides. -/
theorem mem_regsWritten {h : Handler} {o : Operand} {r : Reg} (hmem : r ∈ regsWritten h o) (hill : h ≠ .illegal) :
    h ∈ writersOf r ∨ (r = .A ∧ o = .accumulator) := by
  cases h with
  | illegal => exact absurd rfl hill
  | asl | lsr | rol | ror =>
    by_cases ho : o = .accumulator
    · exact .inr ⟨by simpa [regsWritten, ho] using hmem, ho⟩
    · simp [regsWritten, ho] at hmem
  | pla =>
    obtain rfl | rfl : r = .A ∨ r = .S := by simpa [regsWritten] using hmem
    · exact .inl (by decide)
    · exact .inl (by decide)
  | adc | sbc | and | eor | ora | lda | txa | tya | ldx | tax | tsx | inx | dex | ldy | tay | iny | dey
  | pha | php | plp | jsr | rts | rti | brk | txs =>
    obtain rfl := List.mem_singleton.mp hmem
    exact .inl (by decide)
  | _ => exact absurd hmem List.not_mem_nil

/-- Outside the instructions the rules name for it, a legal instruction keeps a register. -/
theorem completes_keeps_unlisted_regs {i : Instr} (s : State) (hill : i.handler ≠ .illegal) : Completes i s fun t =>
    ∀ r, i.handler ∉ writersOf r → ¬(r = .A ∧ i.operand = .accumulator) → t.reg r = s.reg r := by
  obtain ⟨t, ht, hkeep⟩ := completes_keepsRegs i s
  exact ⟨t, ht, fun r hlist hacc => hkeep r fun hmem => (mem_regsWritten hmem hill).elim hlist hacc⟩

/-- Settles O55: each register is written only by the handlers of `writersOf` and, if it is A, in the Accumulator mode. -/
theorem registersChangeOnlyByTheirInstructions : Obligations.RegistersChangeOnlyByTheirInstructions := by
  intro i s hill
  obtain ⟨t, ht, hkeep⟩ := completes_keeps_unlisted_regs s hill
  exact ⟨t, ht, fun hA ho => hkeep .A hA fun hacc => ho hacc.2, fun hX => hkeep .X hX (by simp),
    fun hY => hkeep .Y hY (by simp), fun hS => hkeep .S hS (by simp)⟩

end Sys2Proof.Machine
end

section
/-! PROOFS. What an instruction does to memory (20_memory.md R41, R43, R49): a list of stores to the addresses of `storedTo`. Both the
frame of memory and the canonical form follow from it. -/

namespace Sys2Proof.Machine

/-- From `s` to `t`, memory changes by one store to each of the addresses `as`, in this order. -/
def StoresTo (as : List Word) (s t : State) : Prop :=
  ∃ l : List (Word × Byte), l.map Prod.fst = as ∧ t.mem = (s.writeAll l).mem

section
variable {as bs : List Word} {s t u : State}

theorem StoresTo.keepsMem (h : StoresTo as s t) : KeepsMem as s t := by
  obtain ⟨l, rfl, hmem⟩ := h
  intro a ha
  rw [State.readByte, hmem]
  exact readByte_writeAll l s a ha

theorem StoresTo.inv (h : StoresTo as s t) (hs : s.Inv) : t.Inv := by
  obtain ⟨l, -, hmem⟩ := h
  rw [State.Inv, hmem]
  exact wf_writeAll l s hs

theorem storesTo_nil (h : t.mem = s.mem) : StoresTo [] s t :=
  ⟨[], rfl, h⟩

theorem StoresTo.of_mem_eq (h : StoresTo as s t) (hu : u.mem = t.mem) : StoresTo as s u := by
  obtain ⟨l, hl, hmem⟩ := h
  exact ⟨l, hl, hu.trans hmem⟩

theorem writeAll_mem_congr (l : List (Word × Byte)) (h : s.mem = t.mem) : (s.writeAll l).mem = (t.writeAll l).mem := by
  simp [State.writeAll, h]

theorem writeAll_append (s : State) (l l' : List (Word × Byte)) : s.writeAll (l ++ l') = (s.writeAll l).writeAll l' := by
  simp [State.writeAll, State.setMem]

theorem StoresTo.trans (h : StoresTo as s t) (h' : StoresTo bs t u) : StoresTo (as ++ bs) s u := by
  obtain ⟨l, rfl, hl⟩ := h
  obtain ⟨l', rfl, hl'⟩ := h'
  refine ⟨l ++ l', List.map_append, ?_⟩
  rw [hl', writeAll_append, writeAll_mem_congr l' hl]

end

/-! ### The shared operations -/

theorem writeByte_storesTo (s : State) (a : Word) (v : Byte) : StoresTo [a] s (s.writeByte a v) :=
  ⟨[(a, v)], rfl, rfl⟩

/-- A shift or rotate stores its result unless it works on the accumulator (R150). -/
theorem shiftWith_storesTo (g : Byte → Bool → Byte × Bool) (c : Ctx) (s : State) :
    StoresTo (if c.operand = .accumulator then [] else [c.ea]) s (shiftWith g c s) := by
  unfold shiftWith
  split
  · rename_i hc
    rw [writeBack_accumulator _ _ _ hc]
    exact storesTo_nil (setReg_mem _ _ _)
  · rename_i hc
    rw [writeBack_memory _ _ _ hc]
    exact writeByte_storesTo s c.ea _

theorem push8_storesTo {s : State} {q : Byte} (hS : s.reg .S = q) (v : Byte) : StoresTo [stackAddr q] s (push8 v s) := by
  subst hS
  exact (writeByte_storesTo s _ v).of_mem_eq (setReg_mem _ _ _)

theorem push16_storesTo {s : State} {q : Byte} (hS : s.reg .S = q) (w : Word) :
    StoresTo [stackAddr q, stackAddr (q - 1)] s (push16 w s) :=
  (push8_storesTo hS (hiByte w)).trans (push8_storesTo (by rw [push8_S, hS]) (loByte w))

theorem opJsr_storesTo {s : State} {q : Byte} (hS : s.reg .S = q) (c : Ctx) :
    StoresTo [stackAddr q, stackAddr (q - 1)] s (opJsr c s) :=
  (push16_storesTo hS (c.pc0 + 2)).of_mem_eq (setPc_mem _ _)

theorem enterVector_storesTo {s : State} {q : Byte} (hS : s.reg .S = q) (ret : Word) (pushed live : Byte) (vec : Word) :
    StoresTo [stackAddr q, stackAddr (q - 1), stackAddr (q - 2)] s (enterVector ret pushed live vec s) := by
  have hflags := push8_storesTo (s := push16 ret s) (q := q - 2) (by rw [push16_S, hS]) pushed
  exact (push16_storesTo hS ret).trans (hflags.of_mem_eq rfl)

theorem opBrk_storesTo {s : State} {q : Byte} (hS : s.reg .S = q) (c : Ctx) :
    StoresTo [stackAddr q, stackAddr (q - 1), stackAddr (q - 2)] s (opBrk c s) := by
  unfold opBrk
  exact enterVector_storesTo hS _ _ _ _

theorem opTsx_mem (c : Ctx) (s : State) : (opTsx c s).mem = s.mem := by
  unfold opTsx
  split <;> rfl

/-! ### The handlers -/

/-- The engine hands the handler a state with the same memory. -/
theorem StoresTo.of_setPc {as : List Word} {s t : State} {w : Word} (h : StoresTo as (s.setPc w) t) : StoresTo as s t :=
  h

/-- The handler of an instruction stores to exactly the addresses of R49. -/
theorem handled_storesTo (i : Instr) (s : State) :
    StoresTo (storedTo i s) s (handled i.opcode i.operand (handlerOf i.handler i.opcode) s) := by
  unfold storedTo handled
  apply StoresTo.of_setPc
  generalize i.handler = h
  cases h with
  | sta | stx | sty => exact writeByte_storesTo _ _ _
  | inc | dec => exact (writeByte_storesTo _ _ _).of_mem_eq (setZN_mem _ _)
  | asl | lsr | rol | ror => exact shiftWith_storesTo _ (contextOf i.opcode i.operand s) _
  | pha | php => exact push8_storesTo (setPc_reg s .S _) _
  | jsr => exact opJsr_storesTo (setPc_reg s .S _) (contextOf i.opcode i.operand s)
  | brk => exact opBrk_storesTo (setPc_reg s .S _) (contextOf i.opcode i.operand s)
  | illegal => exact ⟨_, rfl, rfl⟩
  | tsx => exact storesTo_nil (opTsx_mem (contextOf i.opcode i.operand s) _)
  | bcc | bcs | beq | bne | bmi | bpl | bvc | bvs => exact storesTo_nil (branchIf_mem _ _ _)
  | rti => exact storesTo_nil (returnFromInterrupt_mem _)
  | _ => exact storesTo_nil rfl

theorem opTsx_cfg (c : Ctx) (s : State) : (opTsx c s).cfg = s.cfg := by
  unfold opTsx
  split <;> rfl

/-- No handler writes the configuration (log 1). -/
theorem handlerOf_cfg (h : Handler) (op : Byte) (c : Ctx) (s : State) : (handlerOf h op c s).cfg = s.cfg := by
  cases h with
  | asl | lsr | rol | ror => exact writeBack_cfg _ c _
  | bcc | bcs | beq | bne | bmi | bpl | bvc | bvs => exact branchIf_cfg s _ c
  | tsx => exact opTsx_cfg c s
  | brk => exact enterVector_cfg s _ _ _ _
  | rti => exact returnFromInterrupt_cfg s
  | jsr => exact push16_cfg s (c.pc0 + 2)
  | rts => exact pull16_cfg s
  | _ => rfl

/-- Every instruction completes with its stores done and its configuration as it was. -/
theorem completes_storesTo (i : Instr) (s : State) :
    Completes i s fun t => StoresTo (storedTo i s) s t ∧ t.cfg = s.cfg :=
  completes_of_perform ⟨(handled_storesTo i s).of_mem_eq (perform_mem _ _ _ s),
    (perform_cfg _ _ _ s).trans (handlerOf_cfg i.handler i.opcode _ _)⟩

/-- Settles O10: a step is a list of stores to memory, each of which keeps the canonical form, and no handler writes the
configuration. -/
theorem stepKeepsTheInvariant : Obligations.StepKeepsTheInvariant := by
  intro s t hs hstep
  obtain ⟨u, hu, hstores, hcfg⟩ := completes_storesTo (fetchInstr s) s
  obtain rfl : u = t := Host.Outcome.next.inj (hu.symm.trans hstep)
  exact ⟨hstores.inv hs, hcfg⟩

/-- Settles O56: memory changes by stores to `storedTo` alone. -/
theorem memoryChangesOnlyWhereTheInstructionStores : Obligations.MemoryChangesOnlyWhereTheInstructionStores := by
  intro i s
  obtain ⟨t, ht, hstores, -⟩ := completes_storesTo i s
  exact ⟨t, ht, hstores.keepsMem⟩

end Sys2Proof.Machine
end

section
/-! PROOFS. Bytes and words of memory as the next fetch and the host see them (20_memory.md R43 to R45, R55). -/

namespace Sys2Proof.Machine

/-! ### A stored byte is fetched -/

/-- The instruction fetched has the byte at `PC` for its opcode. -/
theorem fetchInstr_opcode (s : State) : (fetchInstr s).opcode = s.readByte s.pc :=
  congrArg Prod.fst (cellOf_coded _ _ _)

/-- STA Absolute ends at `next` with the accumulator at its operand word (R113). -/
theorem completes_staAbs (w : Word) (s : State) :
    Completes (.staAbs w) s fun t => t.pc = s.pc + 3 ∧ t.readByte w = s.reg .A :=
  ⟨_, rfl, rfl, by simp [handled, opSta, resolve]⟩

/-- Settles O16: the store leaves A at the address of the next fetch, whose byte is the opcode. -/
theorem storedBytesAreFetchedNext : Obligations.StoredBytesAreFetchedNext := by
  intro s
  obtain ⟨t, ht, hpc, hbyte⟩ := completes_staAbs (s.pc + 3) s
  exact ⟨t, ht, hpc, by rw [fetchInstr_opcode, hpc, hbyte]⟩

/-! ### Words -/

variable (s : State) (a w : Word)

/-- The address after `a`, which wraps at 0xFFFF. -/
theorem succAddr_eq : BitVec.ofNat 16 ((a.toNat + 1) % 65536) = a + 1 :=
  BitVec.eq_of_toNat_eq (by simp)

theorem addr_ne_succ : a ≠ a + 1 := by bv_omega

theorem writeByte_frame (v : Byte) : Frame [] [] [a] s (s.writeByte a v) :=
  ⟨fun r _ => writeByte_reg s r v a, fun f _ => writeByte_flag s v f a, (writeByte_storesTo s a v).keepsMem,
    writeByte_cfg s v a⟩

@[simp] theorem writeWord_readByte_lo : (s.writeWord a w).readByte a = loByte w := by
  simp [State.writeWord]

@[simp] theorem writeWord_readByte_hi : (s.writeWord a w).readByte (a + 1) = hiByte w := by
  simp [State.writeWord]

theorem readWord_writeWord_self : (s.writeWord a w).readWord a = w := by
  rw [State.readWord, writeWord_readByte_hi, writeWord_readByte_lo, mkWord_hiByte_loByte]

theorem writeWord_frame : Frame [] [] [a, a + 1] s (s.writeWord a w) := by
  refine ⟨fun r _ => ?_, fun _ _ => rfl, ?_, rfl⟩
  · simp [State.writeWord]
  · exact ((writeByte_storesTo s a (loByte w)).trans (writeByte_storesTo _ (a + 1) (hiByte w))).keepsMem

/-- Settles O17: the laws of byte and word accesses, with the statement's second address read as `a + 1`. -/
theorem wordAccessesAreLittleEndianAndWrap : Obligations.WordAccessesAreLittleEndianAndWrap := by
  intro s a v w
  rw [succAddr_eq]
  refine ⟨⟨readByte_writeByte_self s a v, writeByte_frame s a v, rfl⟩, ?_, ?_, ?_, writeWord_frame s a w, rfl,
    readWord_writeWord_self s a w⟩
  · rw [State.readWord, mkWord_toNat]; omega
  · rw [writeWord_readByte_lo, loByte_toNat]
  · rw [writeWord_readByte_hi, hiByte_toNat]

end Sys2Proof.Machine
end

section
/-! PROOFS. Encoding and decoding (30_encoding.md R60 to R64): what the decoder reads from the bytes after an opcode, the two round
trips, and the opcode table against the tables of R65 and R67. -/

namespace Sys2Proof

/-! ### Operand bytes -/

/-- The operand of mode `m` that the decoder reads from the bytes after the opcode, low byte first (R60, R61). -/
def Mode.operandAt (m : Mode) (bs : List Byte) : Operand :=
  m.operand (bs.getD 0 0) (mkWord (bs.getD 1 0) (bs.getD 0 0))

/-- An operand is what its mode reads from its own bytes, whatever follows them. -/
theorem operandAt_bytes_append (o : Operand) (rest : List Byte) : o.mode.operandAt (o.bytes ++ rest) = o := by
  cases o with
  | absolute w | absoluteX w | absoluteY w | indirect w =>
    simp [Operand.mode, Mode.operandAt, Mode.operand, Operand.bytes, Machine.mkWord_hiByte_loByte]
  | _ => rfl

/-- The bytes of the operand that a mode reads are those the mode's size takes, if they are all there. -/
theorem bytes_operandAt (m : Mode) {bs : List Byte} (h : m.size ≤ bs.length + 1) :
    (m.operandAt bs).bytes = bs.take (m.size - 1) := by
  match m, bs, h with
  | .implied, _, _ | .accumulator, _, _ => rfl
  | .immediate, _ :: _, _ | .zeroPage, _ :: _, _ | .zeroPageX, _ :: _, _ | .zeroPageY, _ :: _, _ | .indirectX, _ :: _, _
  | .indirectY, _ :: _, _ | .relative, _ :: _, _ => rfl
  | .absolute, b1 :: b2 :: _, _ | .absoluteX, b1 :: b2 :: _, _ | .absoluteY, b1 :: b2 :: _, _ | .indirect, b1 :: b2 :: _, _ =>
    simp [Mode.operandAt, Mode.operand, Operand.bytes, Mode.size]

theorem mode_operandAt (m : Mode) (bs : List Byte) : (m.operandAt bs).mode = m := by
  cases m <;> rfl

/-- An operand has one byte for each that its mode's size counts after the opcode. -/
theorem bytes_length (o : Operand) : o.bytes.length = o.mode.size - 1 := by
  cases o <;> rfl

/-! ### The decoder -/

theorem coded_eq_iff {i : Instr} {op : Byte} {o : Operand} : i.coded = (op, o) ↔ i.opcode = op ∧ i.operand = o :=
  Prod.ext_iff

/-- The instruction that `decode` looks up is the one with that opcode and the operand read from the two bytes. -/
theorem decode_eq_iff {op b1 b2 : Byte} {i : Instr} :
    decode op b1 b2 = i ↔ i.coded = (op, (entryOf op).mode.operand b1 (mkWord b2 b1)) := by
  rw [← cellOf_coded op b1 (mkWord b2 b1), ← decode_eq_cellOf]
  exact ⟨fun h => h ▸ rfl, fun h => (coded_injective h).symm⟩

/-- What it is for a byte string to decode: its operand bytes are there, the instruction is its opcode with the operand they hold,
and the rest begins after them. -/
theorem decodeBytes_cons_eq_ok_iff {op : Byte} {bs rest : List Byte} {i : Instr} :
    decodeBytes (op :: bs) = .ok (i, rest) ↔
      (entryOf op).size ≤ bs.length + 1 ∧ i.coded = (op, (entryOf op).mode.operandAt bs) ∧
        bs.drop ((entryOf op).size - 1) = rest := by
  rw [decodeBytes]
  by_cases hshort : bs.length + 1 < (entryOf op).size
  · rw [if_pos hshort]
    exact ⟨nofun, fun h => absurd h.1 (by omega)⟩
  · rw [if_neg hshort, Except.ok.injEq, Prod.mk.injEq, decode_eq_iff, Mode.operandAt]
    exact (and_iff_right (by omega)).symm

/-! ### The round trips -/

/-- Settles O1: the operand's mode is that of the opcode's entry, so the decoder reads back the operand from its own bytes. -/
theorem decodeOfEncodeIsTheInstruction : Obligations.DecodeOfEncodeIsTheInstruction := by
  intro i rest _
  have hsize : (entryOf i.opcode).size - 1 = i.operand.bytes.length := by
    rw [entryOf_size, ← operand_mode, bytes_length]
  rw [encode, List.cons_append, decodeBytes_cons_eq_ok_iff]
  refine ⟨?_, ?_, ?_⟩
  · simp only [List.length_append]; omega
  · rw [← operand_mode, operandAt_bytes_append]; rfl
  · rw [hsize, List.drop_left]

/-- Settles O2: the operand's bytes are those that the decoder skips, so with the opcode and the rest they make up the string. -/
theorem encodeOfDecodeIsTheBytes : Obligations.EncodeOfDecodeIsTheBytes := by
  intro bs rest i h
  cases bs with
  | nil => cases h
  | cons op bs =>
    obtain ⟨hlen, hcoded, rfl⟩ := decodeBytes_cons_eq_ok_iff.mp h
    obtain ⟨hop, ho⟩ := coded_eq_iff.mp hcoded
    rw [entryOf_size] at hlen ⊢
    rw [encode, hop, ho, bytes_operandAt _ hlen, List.cons_append, List.take_append_drop]

/-- Settles O3: three bytes hold every operand, and the decoder's answer is a function of them. -/
theorem everyOpcodeDecodesToExactlyOneEntry : Obligations.EveryOpcodeDecodesToExactlyOneEntry := by
  intro op b1 b2 rest
  have hcoded : (decode op b1 b2).coded = (op, (entryOf op).mode.operandAt (b1 :: b2 :: rest)) := decode_eq_iff.mp rfl
  obtain ⟨hop, ho⟩ := coded_eq_iff.mp hcoded
  have hlen : (entryOf op).size ≤ (b1 :: b2 :: rest).length + 1 := by
    have := entryOf_size_cases op
    simp only [List.length_cons]; omega
  have hdecode := decodeBytes_cons_eq_ok_iff.mpr ⟨hlen, hcoded, rfl⟩
  refine ⟨decode op b1 b2, ⟨hop, hdecode, by rw [ho, mode_operandAt]⟩, ?_⟩
  rintro j ⟨-, hj, -⟩
  exact congrArg Prod.fst (Except.ok.inj (hj.symm.trans hdecode))

/-! ### The tables of R65 and R67 -/

section
open Machine

/-- The entry that R65 gives for a cell of one of its rows; the size is that of the mode (R63). -/
def legalEntry (row : LegalRow) (c : Byte × Mode × Nat × Nat) : Entry :=
  ⟨row.mnemonic, row.handler, c.2.1, c.2.1.size, some c.2.2.1, c.2.2.2⟩

/-- The entry that R67 gives for the opcodes of one of its rows. -/
def illegalEntry (row : IllegalRow) : Entry :=
  ⟨row.mnemonic, .illegal, row.mode, row.size, row.cycles, row.penalty⟩

theorem legalRows_entries : (legalRows.map fun row => row.cells.map fun c => entryOf c.1) =
    legalRows.map fun row => row.cells.map (legalEntry row) := by
  rfl

theorem illegalRows_entries : (illegalRows.map fun row => row.opcodes.map entryOf) =
    illegalRows.map fun row => row.opcodes.map fun _ => illegalEntry row := by
  rfl

/-- Settles O4: the table and R65 give the same entries, row by row and cell by cell. -/
theorem tableHoldsTheLegalOpcodes : Obligations.TableHoldsTheLegalOpcodes :=
  ⟨fun row hrow => List.map_inj_left.mp (List.map_inj_left.mp legalRows_entries row hrow), rfl⟩

/-- The opcodes whose handler is the illegal one all stand in R67. -/
theorem mem_illegalRows_of_handler {op : Byte} (h : (entryOf op).handler = .illegal) :
    op ∈ illegalRows.flatMap fun row => row.opcodes := by
  revert op; decide

/-- Settles O5: the table and R67 give the same entries, row by row and opcode by opcode, and R67 lists every illegal opcode. -/
theorem tableHoldsTheIllegalOpcodes : Obligations.TableHoldsTheIllegalOpcodes :=
  ⟨fun row hrow => List.map_inj_left.mp (List.map_inj_left.mp illegalRows_entries row hrow), by decide,
    fun _ h => List.mem_flatMap.mp (mem_illegalRows_of_handler h)⟩

end

/-! ### Words of the spec -/

/-- A word decodes to the instruction it is the encoding of, with no byte left. -/
theorem decodeBytes_of_encode_eq {i : Instr} {bs : List Byte} (h : encode i = bs) : decodeBytes bs = .ok (i, []) := by
  simpa [h] using decodeOfEncodeIsTheInstruction i [] rfl

/-- Settles O6: each word is the encoding of its instruction; the last one ends before its opcode's second operand byte. -/
theorem wordsOfEachFamilyDecode : Obligations.WordsOfEachFamilyDecode := by
  refine ⟨?_, ?_, ?_, ?_, ?_, ?_, ?_, ?_, ?_, ?_, ?_, ?_, ?_, ?_, ?_, by rfl⟩ <;> exact decodeBytes_of_encode_eq rfl

end Sys2Proof
end

section
/-! PROOFS. Steps and runs: a step completes, by the execution of the instruction that stands at `PC`, and so does every run of steps
(40_engine_addressing_flags.md R80, R84, R86; 70_reset_and_hazards.md R260). -/

namespace Sys2Proof.Machine

variable {s t : State} {n : Nat}

/-! ### One step -/

theorem step_completes (s : State) : ∃ t, step s = .next t :=
  ⟨_, exec_eq (fetchInstr s) s⟩

/-- Settles O8: executing any instruction answers a next state, and a next state is neither a fault nor a refusal. -/
theorem everyStepAnswersANextState : Obligations.EveryStepAnswersANextState := by
  intro s
  obtain ⟨t, ht⟩ := step_completes s
  rw [ht]
  exact ⟨⟨t, rfl⟩, nofun, nofun⟩

/-- The instruction fetched is the one that the byte-string decoder reads at `PC`. -/
theorem fetchInstr_eq_of_decodeBytes {i : Instr} {rest : List Byte} (h : decodeBytes (bytesAtPc s) = .ok (i, rest)) :
    fetchInstr s = i := by
  obtain ⟨-, hcoded, -⟩ := decodeBytes_cons_eq_ok_iff.mp h
  exact decode_eq_iff.mpr hcoded

/-- Settles O7: the step fetches the instruction that the bytes at `PC` decode to. -/
theorem stepRunsTheDecodedInstruction : Obligations.StepRunsTheDecodedInstruction := by
  intro s i rest _ h
  rw [step, fetchInstr_eq_of_decodeBytes h]

/-! ### Runs -/

theorem stepN_succ_of_step (h : step s = .next t) : stepN (n + 1) s = stepN n t := by
  rw [stepN, h]

/-- Settles O9: by induction on the number of steps, each of which completes and keeps the invariant. -/
theorem everyRunCompletesSafely : Obligations.EveryRunCompletesSafely := by
  intro n
  induction n with
  | zero => exact fun s hs => ⟨s, rfl, hs⟩
  | succ n ih =>
    intro s hs
    obtain ⟨t, ht⟩ := step_completes s
    obtain ⟨u, hu, hInv⟩ := ih t (stepKeepsTheInvariant s t hs ht).1
    exact ⟨u, (stepN_succ_of_step ht).trans hu, hInv⟩

theorem stepN_one (s : State) : stepN 1 s = step s := by
  obtain ⟨t, ht⟩ := step_completes s
  exact (stepN_succ_of_step ht).trans ht.symm

/-- A run of `m + n` steps is a run of `m`, which completes, and then a run of `n`. -/
theorem stepN_add (m n : Nat) (s : State) : ∃ t, stepN m s = .next t ∧ stepN (m + n) s = stepN n t := by
  induction m generalizing s with
  | zero => exact ⟨s, rfl, by rw [Nat.zero_add]⟩
  | succ m ih =>
    obtain ⟨t, ht⟩ := step_completes s
    obtain ⟨u, hm, hmn⟩ := ih t
    refine ⟨u, (stepN_succ_of_step ht).trans hm, ?_⟩
    rw [Nat.succ_add, stepN_succ_of_step ht, hmn]

/-- Settles O57: by induction on the number of the first steps. -/
theorem stepsCompose : Obligations.StepsCompose :=
  ⟨fun s => ⟨rfl, stepN_one s⟩, stepN_add⟩

end Sys2Proof.Machine
end

section
/-! PROOFS. The cycles of an instruction (40_engine_addressing_flags.md R85): the engine alone advances the counter. -/

namespace Sys2Proof.Machine

/-! ### Handlers do not advance the counter -/

theorem opTsx_cycles (c : Ctx) (s : State) : (opTsx c s).cycles = s.cycles := by
  unfold opTsx
  split <;> rfl

/-- No handler advances the cycle counter. -/
theorem handlerOf_cycles (h : Handler) (op : Byte) (c : Ctx) (s : State) : (handlerOf h op c s).cycles = s.cycles := by
  cases h with
  | asl | lsr | rol | ror => exact writeBack_cycles _ c _
  | bcc | bcs | beq | bmi | bne | bpl | bvc | bvs => exact branchIf_cycles s _ c
  | tsx => exact opTsx_cycles c s
  | brk => exact enterVector_cycles s _ _ _ _
  | rti => exact returnFromInterrupt_cycles s
  | jsr => exact push16_cycles s (c.pc0 + 2)
  | rts => exact pull16_cycles s
  | _ => rfl

/-! ### The page-cross penalty -/

theorem hiByte_eq_iff {a b : Word} : hiByte a = hiByte b ↔ a.toNat / 256 = b.toNat / 256 := by
  rw [← BitVec.toNat_inj, hiByte_toNat, hiByte_toNat]

/-- The penalty, with the pages in numbers. -/
theorem pagePenalty_eq (e : Entry) (pc ea : Word) :
    pagePenalty e pc ea = if 0 < e.penalty ∧ pc.toNat / 256 ≠ ea.toNat / 256 then e.penalty else 0 := by
  simp only [pagePenalty, gt_iff_lt, ne_eq, hiByte_eq_iff]

/-- Settles O14: the engine adds the base cost and the penalty to a counter that the handler left alone. -/
theorem cyclesAreAccounted : Obligations.CyclesAreAccounted := by
  intro i s
  refine completes_of_perform ?_
  rw [perform_cycles, handled, handlerOf_cycles, setPc_cycles, perform_pc, pagePenalty_eq, ← Nat.add_assoc]
  rfl

end Sys2Proof.Machine
end

section
/-! PROOFS. The addressing modes in numbers (40_engine_addressing_flags.md R87 to R99). -/

namespace Sys2Proof.Machine

variable (s : State) (b : Byte) (w : Word)

/-! ### Extending a byte to a word -/

@[simp] theorem zext16_toNat : (zext16 b).toNat = b.toNat := by
  have := b.isLt
  rw [zext16, BitVec.toNat_setWidth]; omega

theorem ofNat_byte_toNat : BitVec.ofNat 16 b.toNat = zext16 b :=
  BitVec.ofNat_toNat 16 b

theorem add_zext16_toNat : (w + zext16 b).toNat = (w.toNat + b.toNat) % 65536 := by
  rw [BitVec.toNat_add, zext16_toNat]

/-- A sum of bytes stays in the zero page (R98). -/
theorem zext16_add_toNat (b' : Byte) : (zext16 (b + b')).toNat = (b.toNat + b'.toNat) % 256 := by
  rw [zext16_toNat, BitVec.toNat_add]

/-- Adding a byte as a signed offset, in numbers (R96). -/
theorem add_sext16_toNat : ((w + sext16 b).toNat : Int) = ((w.toNat : Int) + b.toInt) % 65536 := by
  have hsext : (sext16 b).toNat = (b.toInt % 65536).toNat := BitVec.toNat_ofInt b.toInt
  rw [BitVec.toNat_add, hsext]
  omega

/-! ### The indexed modes -/

/-- Settles O19: a zero-extended index has the value of its byte, and sums wrap at the width of the address or of the byte. -/
theorem indexedModesAddress : Obligations.IndexedModesAddress :=
  fun _ w b => ⟨rfl, add_zext16_toNat _ w, add_zext16_toNat _ w, zext16_toNat b, zext16_add_toNat b _, zext16_add_toNat b _⟩

/-! ### The pointer modes -/

/-- Where a zero-page pointer has its high byte, under both settings of `ZP_PTR_WRAP` (R94). -/
theorem zpPtr_high_eq (wrap : Bool) : (if b = 0xFF ∧ wrap then 0x0000 else zext16 b + 1) =
    BitVec.ofNat 16 (if wrap then (b.toNat + 1) % 256 else b.toNat + 1) := by
  have hsucc : zext16 b + 1 = BitVec.ofNat 16 (b.toNat + 1) := by
    rw [BitVec.ofNat_add, ofNat_byte_toNat]; rfl
  cases wrap
  · rw [if_neg (by simp), hsucc]; rfl
  · by_cases hb : b = 0xFF
    · subst hb; rfl
    · have hlt : b.toNat + 1 < 256 := by bv_omega
      rw [if_neg fun h => hb h.1, hsucc, if_pos rfl, Nat.mod_eq_of_lt hlt]

/-- `ZpPtr` in numbers (R94). -/
theorem zpPtr_toNat : (zpPtr b s).toNat = (s.readByte (BitVec.ofNat 16 b.toNat)).toNat +
    256 * (s.readByte (BitVec.ofNat 16 (if s.cfg.zpPtrWrap then (b.toNat + 1) % 256 else b.toNat + 1))).toNat := by
  rw [zpPtr, zpPtr_high_eq, mkWord_toNat, ofNat_byte_toNat]
  omega

/-- Where the pointer of an Indirect operand has its high byte, under both settings of `JMP_IND_PAGE_WRAP` (R93). -/
theorem indirectPtr_high_eq (wrap : Bool) : (if loByte w = 0xFF ∧ wrap then mkWord (hiByte w) 0x00 else w + 1) =
    BitVec.ofNat 16 (if wrap then w.toNat / 256 * 256 + (w.toNat % 256 + 1) % 256 else (w.toNat + 1) % 65536) := by
  apply BitVec.eq_of_toNat_eq
  cases wrap
  · simp
  · have hlo : loByte w = 0xFF ↔ w.toNat % 256 = 255 := by rw [← BitVec.toNat_inj, loByte_toNat]; rfl
    by_cases hw : w.toNat % 256 = 255
    · rw [if_pos ⟨hlo.mpr hw, rfl⟩, if_pos rfl, mkWord_toNat, hiByte_toNat, BitVec.toNat_ofNat]
      bv_omega
    · rw [if_neg fun h => hw (hlo.mp h.1), if_pos rfl, BitVec.toNat_add, BitVec.toNat_ofNat]
      bv_omega

/-- The word that an Indirect operand's pointer points at, in numbers (R93). -/
theorem indirectPtr_toNat : (indirectPtr w s).toNat = (s.readByte (BitVec.ofNat 16 w.toNat)).toNat + 256 *
    (s.readByte (BitVec.ofNat 16 (if s.cfg.jmpIndPageWrap then w.toNat / 256 * 256 + (w.toNat % 256 + 1) % 256
      else (w.toNat + 1) % 65536))).toNat := by
  rw [indirectPtr, indirectPtr_high_eq, mkWord_toNat, BitVec.ofNat_toNat, BitVec.setWidth_eq]
  omega

/-- Settles O20: the three modes follow the pointers of `indirectPtr_toNat` and `zpPtr_toNat`. -/
theorem pointerModesAddress : Obligations.PointerModesAddress := by
  intro s b w
  refine ⟨indirectPtr_toNat s w, ?_, ?_⟩
  · rw [resolve, zpPtr_toNat, BitVec.toNat_add]
  · rw [resolve, add_zext16_toNat, zpPtr_toNat]

/-! ### The remaining modes -/

/-- The instruction fetched takes its operand from the two bytes after the opcode, in the mode of its entry. -/
theorem fetchInstr_operand : (fetchInstr s).operand = (entryOf (s.readByte s.pc)).mode.operand (s.readByte (s.pc + 1))
    (mkWord (s.readByte (s.pc + 2)) (s.readByte (s.pc + 1))) :=
  congrArg Prod.snd (cellOf_coded _ _ _)

theorem byte_eq_of_operand_eq_immediate {m : Mode} {b' : Byte} (h : m.operand b' w = .immediate b) : b' = b := by
  cases m with
  | immediate => exact Operand.immediate.inj h
  | _ => cases h

/-- An Immediate operand is the byte at its effective address (R92, log 4). -/
theorem readByte_of_fetchInstr_immediate (h : (fetchInstr s).operand = .immediate b) : s.readByte (s.pc + 1) = b :=
  byte_eq_of_operand_eq_immediate b _ ((fetchInstr_operand s).symm.trans h)

theorem operandOf_immediate {i : Instr} (h : i.operand = .immediate b) : operandOf i s = b := by
  rw [operandOf, h, operandByte]

/-- Settles O21: the operand byte of a fetched Immediate instruction is the one after the opcode; the Relative sum is that of a
signed offset. -/
theorem immediateRelativeAndImpliedAddress : Obligations.ImmediateRelativeAndImpliedAddress := by
  intro s b
  refine ⟨rfl, rfl, BitVec.toNat_add s.pc 1, ?_, add_sext16_toNat b s.pc⟩
  rintro i rfl hi
  exact ⟨operandOf_immediate s b hi, readByte_of_fetchInstr_immediate s b hi⟩

end Sys2Proof.Machine
end

section
/-! PROOFS. The opcodes of a legal handler (30_encoding.md R65): `RowsOf` read from the cells of the table, so that no later proof
searches the 256 opcodes. -/

namespace Sys2Proof.Machine

/-- The cells that R65 lists for a handler: each opcode with its mode. -/
def legalCells (h : Handler) : List (Byte × Mode) :=
  (legalRows.filter fun row => row.handler = h).flatMap fun row => row.cells.map fun c => (c.1, c.2.1)

theorem mem_legalCells {h : Handler} {op : Byte} {m : Mode} :
    (op, m) ∈ legalCells h ↔ ∃ row ∈ legalRows, row.handler = h ∧ ∃ c ∈ row.cells, c.1 = op ∧ c.2.1 = m := by
  simp [legalCells, and_assoc]

/-- The opcodes whose handler is not the illegal one all stand in R65. -/
theorem mem_legalRows_of_handler {op : Byte} (h : (entryOf op).handler ≠ .illegal) :
    op ∈ legalRows.flatMap fun row => row.cells.map Prod.fst := by
  revert op; decide

/-- A legal handler has exactly the opcodes that R65 lists for it. -/
theorem rowsOf_legalCells {h : Handler} (hill : h ≠ .illegal) : RowsOf h (legalCells h) := by
  have hentry := tableHoldsTheLegalOpcodes.1
  intro op
  rw [mem_legalCells]
  constructor
  · rintro rfl
    obtain ⟨row, hrow, hmem⟩ := List.mem_flatMap.mp (mem_legalRows_of_handler hill)
    obtain ⟨c, hc, rfl⟩ := List.mem_map.mp hmem
    rw [hentry row hrow c hc]
    exact ⟨row, hrow, rfl, c, hc, rfl, rfl⟩
  · rintro ⟨row, hrow, rfl, c, hc, rfl, -⟩
    rw [hentry row hrow c hc]

end Sys2Proof.Machine
end

section
/-! PROOFS. Loads, stores and transfers (41_load_store_transfer.md R110 to R121): a handler that writes one register,
with or without Z and N, or one byte of memory. -/

namespace Sys2Proof.Machine

variable {i : Instr} {s t : State} {r : Reg} {v : Byte}

/-! ### From what a handler leaves to what the instruction does -/

/-- An instruction completes with the state its handler leaves, but for the cycles the engine adds (R85). -/
theorem completes_of_handled {post : State → Prop} (ht : handled i.opcode i.operand (handlerOf i.handler i.opcode) s = t)
    (h : ∀ n, post (t.addCycles n)) : Completes i s post := by
  subst ht
  exact completes_of_perform (h _)

theorem Completes.imp {p q : State → Prop} (h : Completes i s p) (hpq : ∀ t, p t → q t) : Completes i s q := by
  obtain ⟨t, ht, hp⟩ := h
  exact ⟨t, ht, hpq t hp⟩

theorem setReg_frame (s : State) (r : Reg) (v : Byte) : Frame [r] [] [] s (s.setReg r v) :=
  ⟨setReg_keepsRegs s r v, fun f _ => setReg_flag s r v f, fun a _ => setReg_readByte s r v a, setReg_cfg s r v⟩

theorem setZN_setReg_frame (s : State) (r : Reg) (v : Byte) : Frame [r] [.Z, .N] [] s (setZN v (s.setReg r v)) := by
  obtain ⟨-, hflag, hmem, hcfg⟩ := setReg_frame s r v
  exact ⟨setZN_setReg_keepsRegs s v v r, setZN_keepsFlags v fun f => hflag f List.not_mem_nil, hmem, hcfg⟩

theorem hasZN_setZN (v : Byte) (t : State) : HasZN v (setZN v t) :=
  hasZN_of (setZN_Z t v) (setZN_N t v)

/-- A handler that writes a byte to one register. -/
theorem completes_setReg
    (h : handled i.opcode i.operand (handlerOf i.handler i.opcode) s = (s.setPc (seqPc i s)).setReg r v) :
    Completes i s fun t => t.reg r = v ∧ t.pc = seqPc i s ∧ Frame [r] [] [] s t :=
  completes_of_handled h fun _ => ⟨reg_setReg_self _ r v, setReg_pc _ r v, setReg_frame (s.setPc (seqPc i s)) r v⟩

/-- A handler that writes a byte to one register and Z and N from it. -/
theorem completes_setZN_setReg
    (h : handled i.opcode i.operand (handlerOf i.handler i.opcode) s = setZN v ((s.setPc (seqPc i s)).setReg r v)) :
    Completes i s fun t => t.reg r = v ∧ HasZN v t ∧ t.pc = seqPc i s ∧ Frame [r] [.Z, .N] [] s t :=
  completes_of_handled h fun _ => ⟨(setZN_reg _ r v).trans (reg_setReg_self _ r v), hasZN_setZN v _, setReg_pc _ r v,
    setZN_setReg_frame (s.setPc (seqPc i s)) r v⟩

/-- A handler that writes a byte to memory at the effective address. -/
theorem completes_writeByte
    (h : handled i.opcode i.operand (handlerOf i.handler i.opcode) s = (s.setPc (seqPc i s)).writeByte (effAddr i s) v) :
    Completes i s fun t => t.readByte (effAddr i s) = v ∧ t.pc = seqPc i s ∧ Frame [] [] [effAddr i s] s t :=
  completes_of_handled h fun _ => ⟨readByte_writeByte_self _ (effAddr i s) v, rfl,
    writeByte_frame (s.setPc (seqPc i s)) (effAddr i s) v⟩

/-! ### The handlers -/

/-- LDA, LDX and LDY (R110 to R112): the operand is read as it was when the step began. -/
theorem handled_load (hmem : (i.handler, r) ∈ [(Handler.lda, Reg.A), (.ldx, .X), (.ldy, .Y)]) :
    handled i.opcode i.operand (handlerOf i.handler i.opcode) s =
      setZN (operandOf i s) ((s.setPc (seqPc i s)).setReg r (operandOf i s)) := by
  have hread : (contextOf i.opcode i.operand s).read (s.setPc (seqPc i s)) = operandOf i s := contextOf_read _ _ s _
  rw [← hread]
  simp only [List.mem_cons, Prod.mk.injEq, List.not_mem_nil, or_false] at hmem
  obtain ⟨hi, rfl⟩ | ⟨hi, rfl⟩ | ⟨hi, rfl⟩ := hmem <;> rw [hi] <;> rfl

/-- STA, STX and STY (R113 to R115). -/
theorem handled_store (hmem : (i.handler, r) ∈ [(Handler.sta, Reg.A), (.stx, .X), (.sty, .Y)]) :
    handled i.opcode i.operand (handlerOf i.handler i.opcode) s =
      (s.setPc (seqPc i s)).writeByte (effAddr i s) (s.reg r) := by
  simp only [List.mem_cons, Prod.mk.injEq, List.not_mem_nil, or_false] at hmem
  obtain ⟨hi, rfl⟩ | ⟨hi, rfl⟩ | ⟨hi, rfl⟩ := hmem <;> rw [hi] <;> rfl

/-- TAX, TAY, TXA and TYA (R116 to R119). -/
theorem handled_transfer {src dst : Reg}
    (hmem : (i.handler, src, dst) ∈ [(Handler.tax, Reg.A, Reg.X), (.tay, .A, .Y), (.txa, .X, .A), (.tya, .Y, .A)]) :
    handled i.opcode i.operand (handlerOf i.handler i.opcode) s =
      setZN (s.reg src) ((s.setPc (seqPc i s)).setReg dst (s.reg src)) := by
  simp only [List.mem_cons, Prod.mk.injEq, List.not_mem_nil, or_false] at hmem
  obtain ⟨hi, rfl, rfl⟩ | ⟨hi, rfl, rfl⟩ | ⟨hi, rfl, rfl⟩ | ⟨hi, rfl, rfl⟩ := hmem <;> rw [hi] <;> rfl

/-- TSX (R120), under both settings of `TSX_SETS_ZN`. -/
theorem handled_tsx (hi : i.handler = .tsx) : handled i.opcode i.operand (handlerOf i.handler i.opcode) s =
    if s.cfg.tsxSetsZN then setZN (s.reg .S) ((s.setPc (seqPc i s)).setReg .X (s.reg .S))
    else (s.setPc (seqPc i s)).setReg .X (s.reg .S) := by
  rw [hi]; rfl

/-- TXS (R121). -/
theorem handled_txs (hi : i.handler = .txs) : handled i.opcode i.operand (handlerOf i.handler i.opcode) s =
    (s.setPc (seqPc i s)).setReg .S (s.reg .X) := by
  rw [hi]; rfl

/-- TSX completes, with Z and N written under its option only (R120). -/
theorem completes_tsx (hi : i.handler = .tsx) : Completes i s fun t =>
    t.reg .X = s.reg .S ∧ (if s.cfg.tsxSetsZN then HasZN (s.reg .S) t else KeepsFlags [] s t) ∧ t.pc = seqPc i s ∧
      Frame [.X] [.Z, .N] [] s t := by
  have htsx := handled_tsx (s := s) hi
  by_cases hZN : s.cfg.tsxSetsZN
  · simp only [if_pos hZN] at htsx ⊢
    exact completes_setZN_setReg htsx
  · simp only [if_neg hZN] at htsx ⊢
    refine (completes_setReg htsx).imp fun t ht => ?_
    obtain ⟨hX, hpc, hregs, hflags, hmem, hcfg⟩ := ht
    exact ⟨hX, hflags, hpc, hregs, fun f _ => hflags f List.not_mem_nil, hmem, hcfg⟩

/-! ### The obligations -/

/-- Settles O22: each load writes its register, and Z and N, from the operand byte. -/
theorem loadsCopyAByteToTheRegister : Obligations.LoadsCopyAByteToTheRegister :=
  ⟨⟨rowsOf_legalCells nofun, rowsOf_legalCells nofun, rowsOf_legalCells nofun⟩,
    fun _ _ _ hmem => completes_setZN_setReg (handled_load hmem)⟩

/-- Settles O23: each store writes one byte, that of its register, at the effective address. -/
theorem storesWriteTheRegisterToMemory : Obligations.StoresWriteTheRegisterToMemory :=
  ⟨⟨rowsOf_legalCells nofun, rowsOf_legalCells nofun, rowsOf_legalCells nofun⟩,
    fun _ _ _ hmem => completes_writeByte (handled_store hmem)⟩

/-- Settles O24: each transfer writes its destination, and Z and N, from its source. -/
theorem transfersCopyBetweenRegisters : Obligations.TransfersCopyBetweenRegisters :=
  ⟨⟨rowsOf_legalCells nofun, rowsOf_legalCells nofun, rowsOf_legalCells nofun, rowsOf_legalCells nofun⟩,
    fun _ _ _ _ hmem => completes_setZN_setReg (handled_transfer hmem)⟩

/-- Settles O25: TSX writes X, and Z and N under its option only; TXS writes S alone. -/
theorem stackPointerTransfers : Obligations.StackPointerTransfers :=
  ⟨⟨rowsOf_legalCells nofun, rowsOf_legalCells nofun⟩, fun _ _ hi => completes_tsx hi,
    fun _ _ hi => completes_setReg (handled_txs hi)⟩

end Sys2Proof.Machine
end

section
/-! PROOFS. Logic, the bit test, addition and subtraction (42_logical_arithmetic.md R130 to R136): handlers that combine the
accumulator with the operand byte. -/

namespace Sys2Proof.Machine

variable {i : Instr} {s : State} {m : Byte}

/-- The operand byte is the one the handler reads, with `PC` already at `next` (R81). -/
theorem read_setPc_seqPc (i : Instr) (s : State) :
    (contextOf i.opcode i.operand s).read (s.setPc (seqPc i s)) = operandOf i s :=
  contextOf_read _ _ s _

/-! ### Logic -/

/-- AND, EOR and ORA (R130 to R132): the value written to A, bit by bit. -/
theorem handled_logic {f : Bool → Bool → Bool}
    (hmem : (i.handler, f) ∈ [(Handler.and, Bool.and), (.eor, Bool.xor), (.ora, Bool.or)]) :
    ∃ v : Byte, (∀ k < 8, v.getLsbD k = f ((s.reg .A).getLsbD k) ((operandOf i s).getLsbD k)) ∧
      handled i.opcode i.operand (handlerOf i.handler i.opcode) s = setZN v ((s.setPc (seqPc i s)).setReg .A v) := by
  rw [← read_setPc_seqPc i s]
  simp only [List.mem_cons, Prod.mk.injEq, List.not_mem_nil, or_false] at hmem
  obtain ⟨hi, rfl⟩ | ⟨hi, rfl⟩ | ⟨hi, rfl⟩ := hmem <;> rw [hi]
  · exact ⟨_, fun _ _ => BitVec.getLsbD_and, rfl⟩
  · exact ⟨_, fun _ _ => BitVec.getLsbD_xor, rfl⟩
  · exact ⟨_, fun _ _ => BitVec.getLsbD_or, rfl⟩

/-- Settles O26: each operation writes its bitwise result to A, and Z and N from it. -/
theorem logicalOperationsOnTheAccumulator : Obligations.LogicalOperationsOnTheAccumulator := by
  refine ⟨⟨rowsOf_legalCells nofun, rowsOf_legalCells nofun, rowsOf_legalCells nofun⟩, fun i s f hmem => ?_⟩
  obtain ⟨v, hbits, hv⟩ := handled_logic hmem
  refine (completes_setZN_setReg hv).imp fun t ht => ?_
  obtain ⟨rfl, hrest⟩ := ht
  exact ⟨hbits, hrest⟩

/-! ### The bit test -/

theorem and_beq_zero_iff_no_common_bit (a m : Byte) :
    (a &&& m == 0) = true ↔ ∀ k < 8, ¬(a.getLsbD k = true ∧ m.getLsbD k = true) := by
  simp [BitVec.eq_of_getLsbD_eq_iff]

/-- BIT (R133). -/
theorem handled_bit (hi : i.handler = .bit) : handled i.opcode i.operand (handlerOf i.handler i.opcode) s =
    setNVBits (operandOf i s) ((s.setPc (seqPc i s)).withFlag .Z (s.reg .A &&& operandOf i s == 0)) := by
  rw [← read_setPc_seqPc i s, hi]
  rfl

/-- Settles O27: Z comes from the conjunction, N and V from the operand, and nothing else is written. -/
theorem bitTestReadsTheOperandBits : Obligations.BitTestReadsTheOperandBits := by
  refine ⟨rowsOf_legalCells nofun, fun i s hi => completes_of_handled (handled_bit hi) fun n => ?_⟩
  refine ⟨?_, by simp, by simp, rfl, fun r _ => by simp, fun f hf => ?_, fun _ _ => rfl, rfl⟩
  · rw [addCycles_flag, setNVBits_flag _ _ (by decide) (by decide), withFlag_flag_self, and_beq_zero_iff_no_common_bit]
  · obtain ⟨hz, hn, hv⟩ : f ≠ .Z ∧ f ≠ .N ∧ f ≠ .V := by simpa using hf
    simp [hz, hn, hv]

/-! ### Addition and subtraction -/

theorem addWithCarry_frame (m : Byte) (s : State) : Frame [.A] [.C, .Z, .V, .N] [] s (addWithCarry m s) :=
  ⟨addWithCarry_keepsRegs m s, addWithCarry_keepsFlags m s, fun _ _ => rfl, rfl⟩

/-- A handler that is the adder of R103 on the byte `m`. -/
theorem completes_addWithCarry
    (h : handled i.opcode i.operand (handlerOf i.handler i.opcode) s = addWithCarry m (s.setPc (seqPc i s))) :
    Completes i s fun t => t.reg .A = BitVec.ofNat 8 (rawSum (s.reg .A) m (s.flag .C)) ∧
      t.flag .C = decide (rawSum (s.reg .A) m (s.flag .C) > 0xFF) ∧ t.flag .V = addOverflow (t.reg .A) (s.reg .A) m ∧
      HasZN (t.reg .A) t ∧ t.pc = seqPc i s ∧ Frame [.A] [.C, .Z, .V, .N] [] s t :=
  completes_of_handled h fun _ => ⟨addWithCarry_A _ m, addWithCarry_C _ m, by simp,
    hasZN_of (by simp) (by simp), rfl, addWithCarry_frame m (s.setPc (seqPc i s))⟩

/-- ADC (R134): the adder on the operand byte. -/
theorem handled_adc (hi : i.handler = .adc) : handled i.opcode i.operand (handlerOf i.handler i.opcode) s =
    addWithCarry (operandOf i s) (s.setPc (seqPc i s)) := by
  rw [← read_setPc_seqPc i s, hi]
  rfl

/-- SBC (R135): the adder on the one's complement of the operand byte. -/
theorem handled_sbc (hi : i.handler = .sbc) : handled i.opcode i.operand (handlerOf i.handler i.opcode) s =
    addWithCarry (~~~operandOf i s) (s.setPc (seqPc i s)) := by
  rw [← read_setPc_seqPc i s, ← BitVec.xor_allOnes, hi]
  rfl

/-- The overflow rule (R102) in sign bits. -/
theorem addOverflow_eq (r a m : Byte) :
    addOverflow r a m = decide (a.getLsbD 7 = m.getLsbD 7 ∧ r.getLsbD 7 ≠ a.getLsbD 7) := by
  simp [addOverflow, BitVec.msb_eq_getLsbD_last, bne, Bool.beq_eq_decide_eq]

/-- The overflow rule on the one's complement of a byte: the sign bits differ (R135). -/
theorem addOverflow_not (r a m : Byte) :
    addOverflow r a (~~~m) = decide (a.getLsbD 7 ≠ m.getLsbD 7 ∧ r.getLsbD 7 ≠ a.getLsbD 7) := by
  rw [addOverflow_eq, decide_eq_decide]
  simp [Bool.eq_not]

theorem rawSum_not (a m : Byte) (c : Bool) : rawSum a (~~~m) c = a.toNat + (255 - m.toNat) + c.toNat := by
  rw [rawSum, BitVec.toNat_not]

/-- Settles O28: ADC is the adder on the operand byte. -/
theorem addWithCarryIsBinary : Obligations.AddWithCarryIsBinary := by
  refine ⟨rowsOf_legalCells nofun, fun i s hi => (completes_addWithCarry (handled_adc hi)).imp fun t ht => ?_⟩
  obtain ⟨hA, hC, hV, hrest⟩ := ht
  rw [addOverflow_eq] at hV
  exact ⟨by rw [hA, BitVec.toNat_ofNat]; rfl, hC, hV, hrest⟩

/-- Settles O29: SBC is the adder on the one's complement of the operand byte. -/
theorem subtractWithBorrowAddsTheComplement : Obligations.SubtractWithBorrowAddsTheComplement := by
  refine ⟨rowsOf_legalCells nofun, fun i s hi => (completes_addWithCarry (handled_sbc hi)).imp fun t ht => ?_⟩
  obtain ⟨hA, hC, hV, hrest⟩ := ht
  rw [rawSum_not] at hA hC
  rw [addOverflow_not] at hV
  exact ⟨by rw [hA, BitVec.toNat_ofNat], hC, hV, hrest⟩

/-! ### The signed and the unsigned range -/

/-- The overflow rule says whether the signed sum leaves the range of a byte (R136). -/
theorem addOverflow_ofNat_rawSum (a m : Byte) (c : Bool) : addOverflow (BitVec.ofNat 8 (rawSum a m c)) a m =
    decide (a.toInt + m.toInt + c.toNat < -128 ∨ 127 < a.toInt + m.toInt + c.toNat) := by
  have ha := a.isLt
  have hm := m.isLt
  have hc := c.toNat_le
  rw [Bool.eq_iff_iff, decide_eq_true_iff]
  simp only [addOverflow, rawSum, BitVec.msb_eq_decide, BitVec.toInt_eq_toNat_cond, BitVec.toNat_ofNat, Bool.and_eq_true,
    beq_iff_eq, bne_iff_ne, decide_eq_decide, ne_eq]
  omega

/-- The one's complement of a byte, as a signed number. -/
theorem toInt_not_byte (m : Byte) : (~~~m).toInt = -m.toInt - 1 := by
  have hm := m.isLt
  simp only [BitVec.toInt_eq_toNat_cond, BitVec.toNat_not]
  omega

/-- Settles O30: the signed sum of the adder; for SBC the complement of a byte is its negative less one, signed, and 255 less it,
unsigned. -/
theorem overflowIsTheSignedRange : Obligations.OverflowIsTheSignedRange := by
  refine ⟨fun i s hi => (completes_addWithCarry (handled_adc hi)).imp fun t ht => ?_,
    fun i s hi => (completes_addWithCarry (handled_sbc hi)).imp fun t ht => ?_⟩
  · obtain ⟨hA, -, hV, -⟩ := ht
    rw [hV, hA, addOverflow_ofNat_rawSum]
  · obtain ⟨hA, hC, hV, -⟩ := ht
    have hm := (operandOf i s).isLt
    refine ⟨?_, ?_, ?_⟩
    · rw [hV, hA, addOverflow_ofNat_rawSum, toInt_not_byte, decide_eq_decide]
      omega
    · rw [hC, rawSum_not, decide_eq_decide]
      omega
    · rw [hA, rawSum_not, BitVec.toNat_ofNat]
      omega

end Sys2Proof.Machine
end

section
/-! PROOFS. The Decimal flag is never read (10_state.md R24, 92_eei_decisions.md D9): every operation of a handler that neither moves
`P` as a byte nor writes the flag commutes with writing it. -/

namespace Sys2Proof.Machine

variable (s : State) (v : Bool)

/-! ### The shared operations -/

/-- Writes to different flags commute (R104). -/
theorem setFlag_comm {f g : Flag} (h : f ≠ g) (b c : Bool) (p : Byte) :
    setFlag f b (setFlag g c p) = setFlag g c (setFlag f b p) := by
  refine flags_ext fun k => ?_
  simp only [getFlag_setFlag]
  by_cases hf : k = f
  · rw [if_pos hf, if_pos hf, if_neg fun hg => h (hf.symm.trans hg)]
  · rw [if_neg hf, if_neg hf]

theorem withFlag_withFlag_D {f : Flag} (h : f ≠ .D) (b : Bool) :
    (s.withFlag .D v).withFlag f b = (s.withFlag f b).withFlag .D v :=
  congrArg s.setP (setFlag_comm h b v s.p)

theorem setZN_withFlag_D (q : Byte) : setZN q (s.withFlag .D v) = (setZN q s).withFlag .D v := by
  simp only [setZN, withFlag_withFlag_D _ v (f := .Z) (by decide), withFlag_withFlag_D _ v (f := .N) (by decide)]

theorem setReg_withFlag_D (r : Reg) (q : Byte) : (s.withFlag .D v).setReg r q = (s.setReg r q).withFlag .D v := by
  cases r <;> rfl

theorem setZN_setReg_withFlag_D (r : Reg) (q q' : Byte) :
    setZN q ((s.withFlag .D v).setReg r q') = (setZN q (s.setReg r q')).withFlag .D v := by
  rw [setReg_withFlag_D, setZN_withFlag_D]

theorem setNVBits_withFlag_D (q : Byte) : setNVBits q (s.withFlag .D v) = (setNVBits q s).withFlag .D v := by
  simp only [setNVBits, withFlag_withFlag_D _ v (f := .N) (by decide), withFlag_withFlag_D _ v (f := .V) (by decide)]

/-- The adder reads the Carry flag alone (R103, D9). -/
theorem addWithCarry_withFlag_D (m : Byte) : addWithCarry m (s.withFlag .D v) = (addWithCarry m s).withFlag .D v := by
  simp only [addWithCarry, withFlag_reg, withFlag_flag_ne s v (f := .C) (g := .D) (by decide),
    withFlag_withFlag_D _ v (f := .C) (by decide), withFlag_withFlag_D _ v (f := .V) (by decide), setZN_setReg_withFlag_D]

theorem compareWith_withFlag_D (q m : Byte) :
    compareWith q m (s.withFlag .D v) = (compareWith q m s).withFlag .D v := by
  simp only [compareWith, withFlag_withFlag_D _ v (f := .C) (by decide), setZN_withFlag_D]

theorem ctxRead_withFlag_D (c : Ctx) : c.read (s.withFlag .D v) = c.read s := by
  obtain ⟨ea, pc0, o, size⟩ := c
  cases o <;> rfl

theorem writeBack_withFlag_D (c : Ctx) (q : Byte) :
    c.writeBack q (s.withFlag .D v) = (c.writeBack q s).withFlag .D v := by
  obtain ⟨ea, pc0, o, size⟩ := c
  cases o <;> rfl

theorem shiftWith_withFlag_D (g : Byte → Bool → Byte × Bool) (c : Ctx) :
    shiftWith g c (s.withFlag .D v) = (shiftWith g c s).withFlag .D v := by
  simp only [shiftWith, ctxRead_withFlag_D, withFlag_flag_ne s v (f := .C) (g := .D) (by decide),
    withFlag_withFlag_D _ v (f := .C) (by decide), setZN_withFlag_D, writeBack_withFlag_D]

theorem opBit_withFlag_D (c : Ctx) : opBit c (s.withFlag .D v) = (opBit c s).withFlag .D v := by
  simp only [opBit, ctxRead_withFlag_D, withFlag_reg, withFlag_withFlag_D _ v (f := .Z) (by decide), setNVBits_withFlag_D]

theorem opTsx_withFlag_D (c : Ctx) : opTsx c (s.withFlag .D v) = (opTsx c s).withFlag .D v := by
  unfold opTsx
  rw [withFlag_cfg]
  split
  · exact setZN_setReg_withFlag_D s v .X _ _
  · rfl

/-- A branch on a condition that the Decimal flag does not decide. -/
theorem branchIf_withFlag_D {cond cond' : Bool} (h : cond' = cond) (c : Ctx) :
    branchIf cond' c (s.withFlag .D v) = (branchIf cond c s).withFlag .D v := by
  subst h
  cases cond' <;> rfl

/-! ### The handlers -/

/-- The handlers that push or pull `P` as a byte or write the Decimal flag, and the illegal one. -/
def touchDecimal : List Handler := [.php, .brk, .plp, .rti, .sed, .cld, .illegal]

/-- Every other handler commutes with writing the Decimal flag. Those that only move other fields of the state do so by
definition. -/
theorem handlerOf_withFlag_D {h : Handler} (hD : h ∉ touchDecimal) (op : Byte) (c : Ctx) :
    handlerOf h op c (s.withFlag .D v) = (handlerOf h op c s).withFlag .D v := by
  have hflag {f : Flag} (hf : f ≠ .D) : (s.withFlag .D v).flag f = s.flag f := withFlag_flag_ne s v hf
  cases h with
  | php | brk | plp | rti | sed | cld | illegal => exact absurd (by decide) hD
  | adc | sbc => exact addWithCarry_withFlag_D s v _
  | cmp | cpx | cpy => exact compareWith_withFlag_D s v _ _
  | asl | lsr | rol | ror => exact shiftWith_withFlag_D s v _ c
  | bcs | beq | bmi | bvs => exact branchIf_withFlag_D s v (hflag (by decide)) c
  | bcc | bne | bpl | bvc => exact branchIf_withFlag_D s v (congrArg _ (hflag (by decide))) c
  | and | eor | ora | lda | ldx | ldy | tax | tay | txa | tya | inx | iny | dex | dey =>
    exact setZN_setReg_withFlag_D s v _ _ _
  | inc | dec => exact setZN_withFlag_D (s.writeByte c.ea _) v _
  | pla => exact setZN_setReg_withFlag_D (pull8 s).2 v .A _ _
  | bit => exact opBit_withFlag_D s v c
  | tsx => exact opTsx_withFlag_D s v c
  | clc | sec | cli | sei | clv => exact withFlag_withFlag_D s v (by decide) _
  | _ => rfl

theorem contextOf_withFlag_D (op : Byte) (o : Operand) : contextOf op o (s.withFlag .D v) = contextOf op o s := by
  cases o <;> rfl

/-- The engine around a handler that commutes with writing the Decimal flag commutes with it too. -/
theorem perform_withFlag_D {h : Ctx → State → State} (hh : ∀ c t, h c (t.withFlag .D v) = (h c t).withFlag .D v)
    (op : Byte) (o : Operand) : perform op o h (s.withFlag .D v) = (perform op o h s).withFlag .D v := by
  have hctx := contextOf_withFlag_D s v op o
  have hea : resolve o (s.withFlag .D v) = resolve o s := congrArg Ctx.ea hctx
  unfold perform
  rw [hctx, hea, show (s.withFlag .D v).setPc (nextPc op (s.withFlag .D v)) =
    (s.setPc (nextPc op s)).withFlag .D v from rfl, hh]
  rfl

/-- Settles O31: handlers outside `touchDecimal`, and the engine, commute with writing the Decimal flag. -/
theorem decimalFlagIsNeverRead : Obligations.DecimalFlagIsNeverRead :=
  fun i s v hD => ⟨_, exec_eq i s, (exec_eq i (s.withFlag .D v)).trans
    (congrArg _ (perform_withFlag_D s v (fun c t => handlerOf_withFlag_D t v hD i.opcode c) i.opcode i.operand))⟩

end Sys2Proof.Machine
end

section
/-! PROOFS. Shifts and rotates, increments and decrements, and compares (43_shift_incdec_compare.md R150 to R162). -/

namespace Sys2Proof.Machine

variable {i : Instr} {s : State} {r : Reg} {v : Byte}

/-! ### The operand of an instruction without an Immediate form -/

/-- A legal instruction has one of the modes that R65 lists for its handler. -/
theorem mode_mem_legalCells (hill : i.handler ≠ .illegal) : i.operand.mode ∈ (legalCells i.handler).map Prod.snd := by
  rw [operand_mode]
  exact List.mem_map_of_mem ((rowsOf_legalCells hill i.opcode).mp rfl)

/-- A handler with no Immediate form takes its operand from memory, but for the Accumulator mode. -/
theorem operandOf_eq_readByte (s : State) (hill : i.handler ≠ .illegal)
    (himm : .immediate ∉ (legalCells i.handler).map Prod.snd) (hacc : i.operand ≠ .accumulator) :
    operandOf i s = s.readByte (effAddr i s) := by
  refine operandByte_memory s (effAddr i s) hacc fun b hb => himm ?_
  simpa only [hb, Operand.mode] using mode_mem_legalCells hill

/-! ### Shifts and rotates -/

/-- The common shape of the bit functions of the shifts (R150 to R153): the result in numbers, and which bit is shifted out. -/
def shiftBits (f : Nat → Nat → Nat) (out : Nat) (v : Byte) (c : Bool) : Byte × Bool :=
  (BitVec.ofNat 8 (f v.toNat c.toNat), v.getLsbD out)

/-- A left shift of a byte by one bit, in numbers. -/
theorem byte_shiftLeft_one_toNat (v : Byte) : (v <<< 1).toNat = 2 * v.toNat % 256 := by
  rw [BitVec.toNat_shiftLeft, Nat.shiftLeft_eq, Nat.mul_comm]

/-- A right shift of a byte by one bit, in numbers. -/
theorem byte_ushiftRight_one_toNat (v : Byte) : (v >>> 1).toNat = v.toNat / 2 := by
  rw [BitVec.toNat_ushiftRight, Nat.shiftRight_eq_div_pow, pow_one]

/-- The old Carry enters at a bit that stands at 0: it is added there (R152, R153). -/
theorem byte_or_carry_toNat (v : Byte) (k : Nat) (h : v.getLsbD k = false) (c : Bool) :
    (v ||| (if c then BitVec.twoPow 8 k else 0#8)).toNat = (v.toNat + 2 ^ k * c.toNat) % 256 := by
  cases c
  · rw [if_neg Bool.false_ne_true, BitVec.or_zero]
    exact (Nat.mod_eq_of_lt v.isLt).symm
  · have hdisjoint : v &&& BitVec.twoPow 8 k = 0#8 := by
      rw [BitVec.and_twoPow, h]
      rfl
    rw [if_pos rfl, ← BitVec.add_eq_or_of_and_eq_zero _ _ hdisjoint]
    simp

theorem aslBits_eq : aslBits = shiftBits (fun v _ => 2 * v % 256) 7 := by
  funext v c
  refine Prod.ext (BitVec.eq_of_toNat_eq ?_) (BitVec.msb_eq_getLsbD_last v)
  simp only [aslBits, shiftBits, byte_shiftLeft_one_toNat, BitVec.toNat_ofNat]
  omega

theorem lsrBits_eq : lsrBits = shiftBits (fun v _ => v / 2) 0 := by
  funext v c
  refine Prod.ext (BitVec.eq_of_toNat_eq ?_) rfl
  have hv := v.isLt
  simp only [lsrBits, shiftBits, byte_ushiftRight_one_toNat, BitVec.toNat_ofNat]
  omega

theorem rolBits_eq : rolBits = shiftBits (fun v c => (2 * v + c) % 256) 7 := by
  funext v c
  have hcarry : (rolBits v c).1.toNat = ((v <<< 1).toNat + 2 ^ 0 * c.toNat) % 256 := byte_or_carry_toNat _ 0 (by simp) c
  refine Prod.ext (BitVec.eq_of_toNat_eq ?_) (BitVec.msb_eq_getLsbD_last v)
  rw [byte_shiftLeft_one_toNat] at hcarry
  rw [hcarry, shiftBits, BitVec.toNat_ofNat]
  omega

theorem rorBits_eq : rorBits = shiftBits (fun v c => v / 2 + 128 * c) 0 := by
  funext v c
  have hcarry : (rorBits v c).1.toNat = ((v >>> 1).toNat + 2 ^ 7 * c.toNat) % 256 := byte_or_carry_toNat _ 7 (by simp) c
  rw [byte_ushiftRight_one_toNat] at hcarry
  exact Prod.ext (BitVec.eq_of_toNat_eq hcarry) rfl

theorem shiftWith_pc (g : Byte → Bool → Byte × Bool) (c : Ctx) (s : State) : (shiftWith g c s).pc = s.pc :=
  writeBack_pc _ c _

theorem shiftWith_C (g : Byte → Bool → Byte × Bool) (c : Ctx) (s : State) :
    (shiftWith g c s).flag .C = (g (c.read s) (s.flag .C)).2 := by
  simp [shiftWith]

theorem hasZN_shiftWith (g : Byte → Bool → Byte × Bool) (c : Ctx) (s : State) :
    HasZN (g (c.read s) (s.flag .C)).1 (shiftWith g c s) :=
  hasZN_of (by simp [shiftWith]) (by simp [shiftWith])

theorem shiftWith_A (g : Byte → Bool → Byte × Bool) {c : Ctx} (s : State) (hc : c.operand = .accumulator) :
    (shiftWith g c s).reg .A = (g (c.read s) (s.flag .C)).1 := by
  simp [shiftWith, writeBack_accumulator _ _ _ hc]

theorem shiftWith_readByte_ea (g : Byte → Bool → Byte × Bool) {c : Ctx} (s : State) (hc : c.operand ≠ .accumulator) :
    (shiftWith g c s).readByte c.ea = (g (c.read s) (s.flag .C)).1 := by
  simp [shiftWith, writeBack_memory _ _ _ hc]

theorem shiftWith_frame (g : Byte → Bool → Byte × Bool) (c : Ctx) (s : State) :
    Frame (if c.operand = .accumulator then [.A] else []) [.C, .Z, .N]
      (if c.operand = .accumulator then [] else [c.ea]) s (shiftWith g c s) :=
  ⟨shiftWith_keepsRegs g c s, shiftWith_keepsFlags g c s, (shiftWith_storesTo g c s).keepsMem, writeBack_cfg _ c _⟩

/-- A handler that is the common frame of the shifts (R150): the result goes to A or to memory, as the mode says. -/
theorem completes_shiftWith {g : Byte → Bool → Byte × Bool}
    (h : handled i.opcode i.operand (handlerOf i.handler i.opcode) s =
      shiftWith g (contextOf i.opcode i.operand s) (s.setPc (seqPc i s))) :
    Completes i s fun t => t.flag .C = (g (operandOf i s) (s.flag .C)).2 ∧
      HasZN (g (operandOf i s) (s.flag .C)).1 t ∧ t.pc = seqPc i s ∧
      (i.operand = .accumulator →
        t.reg .A = (g (operandOf i s) (s.flag .C)).1 ∧ Frame [.A] [.C, .Z, .N] [] s t) ∧
      (i.operand ≠ .accumulator → t.readByte (effAddr i s) = (g (operandOf i s) (s.flag .C)).1 ∧
        Frame [] [.C, .Z, .N] [effAddr i s] s t) := by
  have hframe := shiftWith_frame g (contextOf i.opcode i.operand s) (s.setPc (seqPc i s))
  rw [← read_setPc_seqPc i s]
  refine completes_of_handled h fun n => ⟨shiftWith_C g _ _, hasZN_shiftWith g _ _, shiftWith_pc g _ _, fun hacc => ?_,
    fun hmem => ?_⟩
  · rw [contextOf_operand, if_pos hacc, if_pos hacc] at hframe
    exact ⟨(addCycles_reg _ _ n).trans (shiftWith_A g _ hacc), hframe⟩
  · rw [contextOf_operand, if_neg hmem, if_neg hmem] at hframe
    exact ⟨shiftWith_readByte_ea g _ hmem, hframe⟩

/-- The table of R150 to R153: each handler with its result in numbers and the bit it shifts out. -/
def shiftTable : List (Handler × (Nat → Nat → Nat) × Nat) :=
  [(.asl, fun v _ => 2 * v % 256, 7), (.lsr, fun v _ => v / 2, 0), (.rol, fun v c => (2 * v + c) % 256, 7),
    (.ror, fun v c => v / 2 + 128 * c, 0)]

/-- ASL, LSR, ROL and ROR (R150 to R153). -/
theorem handled_shift {f : Nat → Nat → Nat} {out : Nat} (hmem : (i.handler, f, out) ∈ shiftTable) :
    handled i.opcode i.operand (handlerOf i.handler i.opcode) s =
      shiftWith (shiftBits f out) (contextOf i.opcode i.operand s) (s.setPc (seqPc i s)) := by
  simp only [shiftTable, List.mem_cons, Prod.mk.injEq, List.not_mem_nil, or_false] at hmem
  obtain ⟨hi, rfl, rfl⟩ | ⟨hi, rfl, rfl⟩ | ⟨hi, rfl, rfl⟩ | ⟨hi, rfl, rfl⟩ := hmem <;> rw [hi]
  · rw [← aslBits_eq]; rfl
  · rw [← lsrBits_eq]; rfl
  · rw [← rolBits_eq]; rfl
  · rw [← rorBits_eq]; rfl

/-- A shift or rotate in another mode than Accumulator has its operand in memory (R150). -/
theorem operandOf_shift {f : Nat → Nat → Nat} {out : Nat} (hmem : (i.handler, f, out) ∈ shiftTable)
    (hacc : i.operand ≠ .accumulator) : operandOf i s = s.readByte (effAddr i s) := by
  have hh : i.handler ∈ [Handler.asl, .lsr, .rol, .ror] := List.mem_map_of_mem (f := Prod.fst) hmem
  have hmodes : ∀ h ∈ [Handler.asl, .lsr, .rol, .ror], h ≠ .illegal ∧ Mode.immediate ∉ (legalCells h).map Prod.snd := by
    decide
  obtain ⟨hill, himm⟩ := hmodes _ hh
  exact operandOf_eq_readByte s hill himm hacc

/-- Settles O32: each shift is the common frame of R150 on its bit function, and its operand is A or the byte at `ea`. -/
theorem shiftsAndRotatesMoveOneBit : Obligations.ShiftsAndRotatesMoveOneBit := by
  refine ⟨⟨rowsOf_legalCells nofun, rowsOf_legalCells nofun, rowsOf_legalCells nofun, rowsOf_legalCells nofun⟩,
    fun i s f out hmem => (completes_shiftWith (handled_shift hmem)).imp fun t ht => ?_⟩
  obtain ⟨hC, hZN, hpc, hA, hM⟩ := ht
  refine ⟨hC, hZN, hpc, fun hacc => ⟨?_, hA hacc⟩, fun hacc => ⟨operandOf_shift hmem hacc, hM hacc⟩⟩
  rw [operandOf, hacc, operandByte]

/-! ### Increments and decrements -/

/-- A handler that writes a byte to memory at the effective address and Z and N from it. -/
theorem completes_setZN_writeByte
    (h : handled i.opcode i.operand (handlerOf i.handler i.opcode) s =
      setZN v ((s.setPc (seqPc i s)).writeByte (effAddr i s) v)) :
    Completes i s fun t => t.readByte (effAddr i s) = v ∧ HasZN v t ∧ t.pc = seqPc i s ∧
      Frame [] [.Z, .N] [effAddr i s] s t := by
  obtain ⟨hregs, hflags, hmem, hcfg⟩ := writeByte_frame (s.setPc (seqPc i s)) (effAddr i s) v
  exact completes_of_handled h fun _ => ⟨readByte_writeByte_self _ (effAddr i s) v, hasZN_setZN v _, rfl,
    fun r hr => (setZN_reg _ r v).trans (hregs r hr), setZN_keepsFlags v fun f => hflags f List.not_mem_nil, hmem, hcfg⟩

/-- Adding `d` to a byte, in numbers: `d = 255` takes one away. -/
theorem byte_add_ofNat (v : Byte) (d : Nat) : v + BitVec.ofNat 8 d = BitVec.ofNat 8 (v.toNat + d) := by
  rw [BitVec.ofNat_add, BitVec.ofNat_toNat, BitVec.setWidth_eq]

theorem byte_sub_one (v : Byte) : v - 1 = v + BitVec.ofNat 8 255 :=
  BitVec.sub_eq_add_neg v 1

/-- INC and DEC (R154, R155). -/
theorem handled_incDecMemory {d : Nat} (hmem : (i.handler, d) ∈ [(Handler.inc, 1), (.dec, 255)]) :
    handled i.opcode i.operand (handlerOf i.handler i.opcode) s = setZN (operandOf i s + BitVec.ofNat 8 d)
      ((s.setPc (seqPc i s)).writeByte (effAddr i s) (operandOf i s + BitVec.ofNat 8 d)) := by
  rw [← read_setPc_seqPc i s]
  simp only [List.mem_cons, Prod.mk.injEq, List.not_mem_nil, or_false] at hmem
  obtain ⟨hi, rfl⟩ | ⟨hi, rfl⟩ := hmem <;> rw [hi]
  · rfl
  · rw [← byte_sub_one]; rfl

/-- INC and DEC have neither an Accumulator nor an Immediate form (R154, R155). -/
theorem operandOf_incDecMemory {d : Nat} (hmem : (i.handler, d) ∈ [(Handler.inc, 1), (.dec, 255)]) :
    operandOf i s = s.readByte (effAddr i s) := by
  have hh : i.handler ∈ [Handler.inc, .dec] := List.mem_map_of_mem (f := Prod.fst) hmem
  have hmodes : ∀ h ∈ [Handler.inc, .dec], h ≠ .illegal ∧ Mode.immediate ∉ (legalCells h).map Prod.snd ∧
      Mode.accumulator ∉ (legalCells h).map Prod.snd := by
    decide
  obtain ⟨hill, himm, hacc⟩ := hmodes _ hh
  refine operandOf_eq_readByte s hill himm fun ho => hacc ?_
  simpa only [ho, Operand.mode] using mode_mem_legalCells hill

/-- Settles O33: INC and DEC write the byte at `ea` plus 1 or 255 back to `ea`, and Z and N from it. -/
theorem memoryIncrementAndDecrementWrap : Obligations.MemoryIncrementAndDecrementWrap := by
  refine ⟨⟨rowsOf_legalCells nofun, rowsOf_legalCells nofun⟩, fun i s d hmem => ?_⟩
  rw [← byte_add_ofNat, ← operandOf_incDecMemory hmem]
  exact completes_setZN_writeByte (handled_incDecMemory hmem)

/-- INX, INY, DEX and DEY (R156 to R159). -/
theorem handled_incDecIndex {d : Nat}
    (hmem : (i.handler, r, d) ∈ [(Handler.inx, Reg.X, 1), (.iny, .Y, 1), (.dex, .X, 255), (.dey, .Y, 255)]) :
    handled i.opcode i.operand (handlerOf i.handler i.opcode) s =
      setZN (s.reg r + BitVec.ofNat 8 d) ((s.setPc (seqPc i s)).setReg r (s.reg r + BitVec.ofNat 8 d)) := by
  simp only [List.mem_cons, Prod.mk.injEq, List.not_mem_nil, or_false] at hmem
  obtain ⟨hi, rfl, rfl⟩ | ⟨hi, rfl, rfl⟩ | ⟨hi, rfl, rfl⟩ | ⟨hi, rfl, rfl⟩ := hmem <;> rw [hi]
  · rfl
  · rfl
  · rw [← byte_sub_one]; rfl
  · rw [← byte_sub_one]; rfl

/-- Settles O34: each writes its index register plus 1 or 255, mod 256, and Z and N from it. -/
theorem indexIncrementAndDecrementWrap : Obligations.IndexIncrementAndDecrementWrap := by
  refine ⟨⟨rowsOf_legalCells nofun, rowsOf_legalCells nofun, rowsOf_legalCells nofun, rowsOf_legalCells nofun⟩,
    fun i s r d hmem => (completes_setZN_setReg (handled_incDecIndex hmem)).imp fun t ht => ?_⟩
  obtain ⟨hr, hZN, hrest⟩ := ht
  rw [← hr] at hZN
  exact ⟨by rw [hr, byte_add_ofNat, BitVec.toNat_ofNat], hZN, hrest⟩

/-! ### Compares -/

/-- CMP, CPX and CPY (R160 to R162). -/
theorem handled_compare (hmem : (i.handler, r) ∈ [(Handler.cmp, Reg.A), (.cpx, .X), (.cpy, .Y)]) :
    handled i.opcode i.operand (handlerOf i.handler i.opcode) s =
      compareWith (s.reg r) (operandOf i s) (s.setPc (seqPc i s)) := by
  rw [← read_setPc_seqPc i s]
  simp only [List.mem_cons, Prod.mk.injEq, List.not_mem_nil, or_false] at hmem
  obtain ⟨hi, rfl⟩ | ⟨hi, rfl⟩ | ⟨hi, rfl⟩ := hmem <;> rw [hi] <;> rfl

theorem compareWith_frame (q m : Byte) (s : State) : Frame [] [.C, .Z, .N] [] s (compareWith q m s) :=
  ⟨fun r _ => compareWith_reg s r m q, compareWith_keepsFlags q m s, fun _ _ => rfl, rfl⟩

/-- The wrapped difference of two bytes, in numbers. -/
theorem byte_sub_eq_ofNat (q m : Byte) : q - m = BitVec.ofNat 8 (q.toNat + 256 - m.toNat) := by
  bv_omega

/-- The wrapped difference is zero only for equal bytes. -/
theorem compareWith_Z_iff_eq (q m : Byte) (s : State) : (compareWith q m s).flag .Z = decide (q = m) := by
  rw [compareWith_Z, Bool.eq_iff_iff, beq_iff_eq, decide_eq_true_iff]
  exact sub_eq_zero

/-- A handler that is the compare rule on a register and the byte `m` (R160 to R162). -/
theorem completes_compareWith {q m : Byte}
    (h : handled i.opcode i.operand (handlerOf i.handler i.opcode) s = compareWith q m (s.setPc (seqPc i s))) :
    Completes i s fun t => t.flag .C = decide (q.toNat ≥ m.toNat) ∧ HasZN (q - m) t ∧ t.flag .Z = decide (q = m) ∧
      t.pc = seqPc i s ∧ Frame [] [.C, .Z, .N] [] s t :=
  completes_of_handled h fun _ => ⟨compareWith_C _ m q, hasZN_of (compareWith_Z _ m q) (compareWith_N _ m q),
    compareWith_Z_iff_eq q m _, rfl, compareWith_frame q m (s.setPc (seqPc i s))⟩

/-- Settles O35: each compare is the compare rule on its register and the operand byte. -/
theorem comparesSetCarryZeroAndNegative : Obligations.ComparesSetCarryZeroAndNegative := by
  refine ⟨⟨rowsOf_legalCells nofun, rowsOf_legalCells nofun, rowsOf_legalCells nofun⟩, fun i s r hmem => ?_⟩
  rw [← byte_sub_eq_ofNat]
  exact completes_compareWith (handled_compare hmem)

end Sys2Proof.Machine
end

section
/-! PROOFS. Branches, jumps, calls and returns (44_branch_jump.md R170 to R183): handlers that write `PC`, and push or pull the word
it is saved in. -/

namespace Sys2Proof.Machine

variable {i : Instr} {s t u : State}

/-! ### Frames -/

theorem setPc_frame (s : State) (w : Word) : Frame [] [] [] s (s.setPc w) :=
  ⟨fun r _ => setPc_reg s r w, fun _ _ => rfl, fun _ _ => rfl, rfl⟩

/-- Two frames in a row leave what both leave. -/
theorem Frame.trans {rs rs' : List Reg} {fs fs' : List Flag} {as as' : List Word} (h : Frame rs fs as s t)
    (h' : Frame rs' fs' as' t u) : Frame (rs ++ rs') (fs ++ fs') (as ++ as') s u := by
  obtain ⟨hregs, hflags, hmem, hcfg⟩ := h
  obtain ⟨hregs', hflags', hmem', hcfg'⟩ := h'
  simp only [Frame, KeepsRegs, KeepsFlags, KeepsMem, List.mem_append, not_or]
  exact ⟨fun r hr => (hregs' r hr.2).trans (hregs r hr.1), fun f hf => (hflags' f hf.2).trans (hflags f hf.1),
    fun a ha => (hmem' a ha.2).trans (hmem a ha.1), hcfg'.trans hcfg⟩

/-- A register that a frame allows to change, but that is as before, belongs to the frame. -/
theorem Frame.of_regs_eq {rs : List Reg} {fs : List Flag} {as : List Word} (h : Frame rs fs as s t)
    (hr : ∀ r ∈ rs, t.reg r = s.reg r) : Frame [] fs as s t := by
  obtain ⟨hregs, hrest⟩ := h
  refine ⟨fun r _ => ?_, hrest⟩
  by_cases hmem : r ∈ rs
  · exact hr r hmem
  · exact hregs r hmem

/-! ### Branches -/

theorem branchIf_frame (cond : Bool) (c : Ctx) (s : State) : Frame [] [] [] s (branchIf cond c s) :=
  ⟨fun r _ => branchIf_reg s r cond c, fun f _ => branchIf_flag s f cond c, fun a _ => branchIf_readByte s a cond c,
    branchIf_cfg s cond c⟩

/-- A handler that is the common rule of the branches (R170). -/
theorem completes_branchIf {cond : Bool}
    (h : handled i.opcode i.operand (handlerOf i.handler i.opcode) s =
      branchIf cond (contextOf i.opcode i.operand s) (s.setPc (seqPc i s))) :
    Completes i s fun t => t.pc = (if cond = true then effAddr i s + 2 else seqPc i s) ∧ Frame [] [] [] s t :=
  completes_of_handled h fun _ => ⟨branchIf_pc _ cond _, branchIf_frame cond _ (s.setPc (seqPc i s))⟩

/-- The table of R171 to R178: each branch with the flag it tests and the value it tests for. -/
def branchTable : List (Handler × Flag × Bool) :=
  [(.bcc, .C, false), (.bcs, .C, true), (.beq, .Z, true), (.bne, .Z, false), (.bmi, .N, true), (.bpl, .N, false),
    (.bvc, .V, false), (.bvs, .V, true)]

/-- The eight branches (R171 to R178). -/
theorem handled_branch {f : Flag} {v : Bool} (hmem : (i.handler, f, v) ∈ branchTable) :
    handled i.opcode i.operand (handlerOf i.handler i.opcode) s =
      branchIf (s.flag f == v) (contextOf i.opcode i.operand s) (s.setPc (seqPc i s)) := by
  simp only [branchTable, List.mem_cons, Prod.mk.injEq, List.not_mem_nil, or_false] at hmem
  obtain ⟨hi, rfl, rfl⟩ | ⟨hi, rfl, rfl⟩ | ⟨hi, rfl, rfl⟩ | ⟨hi, rfl, rfl⟩ | ⟨hi, rfl, rfl⟩ | ⟨hi, rfl, rfl⟩ |
    ⟨hi, rfl, rfl⟩ | ⟨hi, rfl, rfl⟩ := hmem <;> simp only [hi, beq_true, beq_false] <;> rfl

/-- Every branch is in the Relative mode. -/
theorem operand_of_branch {f : Flag} {v : Bool} (hmem : (i.handler, f, v) ∈ branchTable) : ∃ b, i.operand = .relative b := by
  have hmodes : ∀ row ∈ branchTable, row.1 ≠ .illegal ∧ ∀ m ∈ (legalCells row.1).map Prod.snd, m = .relative := by decide
  obtain ⟨hill, hrelative⟩ := hmodes _ hmem
  have hmode : i.operand.mode = .relative := hrelative _ (mode_mem_legalCells hill)
  cases ho : i.operand with
  | relative b => exact ⟨b, rfl⟩
  | _ => rw [ho] at hmode; cases hmode

theorem seqPc_of_relative {b : Byte} (s : State) (ho : i.operand = .relative b) : seqPc i s = s.pc + 2 := by
  have hsize : i.entry.size = 2 := by
    rw [Instr.entry, entryOf_size, ← operand_mode, ho]; rfl
  rw [seqPc, hsize]; rfl

theorem word_add_two_toNat (w : Word) : (w + 2).toNat = (w.toNat + 2) % 65536 :=
  BitVec.toNat_add w 2

/-- Where a branch goes, taken and not taken, in numbers (R170). -/
theorem branchTarget_toNat (p : Prop) [Decidable p] (pc : Word) (b : Byte) :
    ((if p then pc + sext16 b + 2 else pc + 2).toNat : Int) =
      (if p then (pc.toNat : Int) + 2 + b.toInt else (pc.toNat : Int) + 2) % 65536 := by
  split
  · have hea := add_sext16_toNat b pc
    rw [word_add_two_toNat]
    omega
  · rw [word_add_two_toNat]
    omega

/-- Settles O36: each branch is the common rule of R170 on the test of one flag, and its `ea` is `pc0` plus the signed offset. -/
theorem branchesTestOneFlag : Obligations.BranchesTestOneFlag := by
  refine ⟨⟨rowsOf_legalCells nofun, rowsOf_legalCells nofun, rowsOf_legalCells nofun, rowsOf_legalCells nofun,
    rowsOf_legalCells nofun, rowsOf_legalCells nofun, rowsOf_legalCells nofun, rowsOf_legalCells nofun⟩,
    fun i s f v hmem => ?_⟩
  obtain ⟨b, ho⟩ := operand_of_branch hmem
  refine ⟨b, ho, (completes_branchIf (handled_branch hmem)).imp fun t ht => ?_⟩
  obtain ⟨hpc, hframe⟩ := ht
  have hea : effAddr i s = s.pc + sext16 b := by rw [effAddr, ho]; rfl
  simp only [hea, seqPc_of_relative s ho, beq_iff_eq] at hpc
  exact ⟨by rw [hpc, branchTarget_toNat], hframe⟩

/-! ### Jumps -/

/-- JMP (R179). -/
theorem handled_jmp (hi : i.handler = .jmp) : handled i.opcode i.operand (handlerOf i.handler i.opcode) s =
    (s.setPc (seqPc i s)).setPc (effAddr i s) := by
  rw [hi]; rfl

/-- Settles O37: JMP writes `PC` alone, in both encodings. -/
theorem jumpSetsPcToTheEffectiveAddress : Obligations.JumpSetsPcToTheEffectiveAddress :=
  ⟨rowsOf_legalCells nofun, fun i s hi => completes_of_handled (handled_jmp hi) fun _ => ⟨rfl, setPc_frame s (effAddr i s)⟩⟩

/-! ### Calls and returns -/

theorem handler_jsrAbs (w : Word) : (Instr.jsrAbs w).handler = .jsr := by
  change (entryOf 0x20).handler = .jsr
  rfl

/-- JSR (R180). -/
theorem handled_jsr (hi : i.handler = .jsr) : handled i.opcode i.operand (handlerOf i.handler i.opcode) s =
    (push16 (s.pc + 2) (s.setPc (seqPc i s))).setPc (effAddr i s) := by
  rw [hi]; rfl

/-- RTS (R181). -/
theorem handled_rts (hi : i.handler = .rts) : handled i.opcode i.operand (handlerOf i.handler i.opcode) s =
    (pull16 (s.setPc (seqPc i s))).2.setPc ((pull16 (s.setPc (seqPc i s))).1 + 1) := by
  rw [hi]; rfl

/-- JSR jumps to its effective address with `pc0 + 2` on the stack (R180). -/
theorem completes_jsr (hi : i.handler = .jsr) : Completes i s fun t =>
    t.pc = effAddr i s ∧ t.reg .S = s.reg .S - 2 ∧ t.readByte (stackAddr (s.reg .S)) = hiByte (s.pc + 2) ∧
      t.readByte (stackAddr (s.reg .S - 1)) = loByte (s.pc + 2) ∧
      Frame [.S] [] [stackAddr (s.reg .S), stackAddr (s.reg .S - 1)] s t := by
  have hhi := push16_readByte_hi (s.setPc (seqPc i s)) (s.pc + 2)
  have hlo := push16_readByte_lo (s.setPc (seqPc i s)) (s.pc + 2)
  have hframe := push16_frame (s.setPc (seqPc i s)) (s.pc + 2)
  simp only [setPc_reg] at hhi hlo hframe
  exact completes_of_handled (handled_jsr hi) fun _ => ⟨rfl, by simp, hhi, hlo, hframe⟩

/-- RTS ends one past the word it pulls (R181). -/
theorem completes_rts (hi : i.handler = .rts) : Completes i s fun t =>
    t.pc = mkWord (s.readByte (stackAddr (s.reg .S + 2))) (s.readByte (stackAddr (s.reg .S + 1))) + 1 ∧
      t.reg .S = s.reg .S + 2 ∧ Frame [.S] [] [] s t :=
  completes_of_handled (handled_rts hi) fun _ =>
    ⟨by simp, by simp, pull16_frame (s.setPc (seqPc i s))⟩

/-- Settles O38: the two bytes that JSR pushes, in numbers. -/
theorem callPushesTheReturnAddress : Obligations.CallPushesTheReturnAddress := by
  refine ⟨rowsOf_legalCells nofun, fun w s => (completes_jsr (handler_jsrAbs w)).imp fun t ht => ?_⟩
  obtain ⟨hpc, hS, hhi, hlo, hframe⟩ := ht
  refine ⟨hpc, hS, ?_, ?_, hframe⟩
  · rw [hhi, hiByte_toNat, word_add_two_toNat]
  · rw [hlo, loByte_toNat, word_add_two_toNat]
    exact Nat.mod_mod_of_dvd _ (by decide)

/-- Settles O39: the word that RTS pulls, plus one, in numbers. -/
theorem returnPullsTheAddressAndAddsOne : Obligations.ReturnPullsTheAddressAndAddsOne := by
  refine ⟨rowsOf_legalCells nofun, fun s => (completes_rts rfl).imp fun t ht => ?_⟩
  obtain ⟨hpc, hrest⟩ := ht
  refine ⟨?_, hrest⟩
  rw [hpc, BitVec.toNat_add, mkWord_toNat, Nat.mul_comm, Nat.add_comm (256 * _)]
  rfl

/-- Settles O40: RTS pulls the two bytes that JSR pushed, which are those of `pc0 + 2`. -/
theorem callThenReturnResumesAfterTheCall : Obligations.CallThenReturnResumesAfterTheCall := by
  intro w s
  obtain ⟨t, hjsr, -, htS, hhi, hlo, hpush⟩ := completes_jsr (s := s) (handler_jsrAbs w)
  obtain ⟨u, hrts, hpc, huS, hpull⟩ := completes_rts (i := .rts) (s := t) rfl
  have hslotLo : t.reg .S + 1 = s.reg .S - 1 := by rw [htS]; bv_omega
  have hslotHi : t.reg .S + 2 = s.reg .S := by rw [htS]; bv_omega
  refine ⟨t, u, hjsr, hrts, ?_, (hpush.trans hpull).of_regs_eq fun r hr => ?_⟩
  · rw [hpc, hslotLo, hslotHi, hhi, hlo, mkWord_hiByte_loByte, BitVec.add_assoc]
    rfl
  · obtain rfl : r = .S := by simpa using hr
    rw [huS, hslotHi]

/-! ### Return from interrupt -/

/-- A return from an interrupt may write all flags, and of the registers S alone. -/
theorem returnFromInterrupt_frame (s : State) :
    Frame [.S] [.C, .Z, .I, .D, .B, .U, .V, .N] [] s (returnFromInterrupt s) :=
  ⟨fun _ hr => returnFromInterrupt_reg s (by simpa using hr), keepsFlags_all s _, fun a _ => returnFromInterrupt_readByte s a,
    returnFromInterrupt_cfg s⟩

/-- RTI (R182). -/
theorem handled_rti (hi : i.handler = .rti) : handled i.opcode i.operand (handlerOf i.handler i.opcode) s =
    returnFromInterrupt (s.setPc (seqPc i s)) := by
  rw [hi]; rfl

/-- RTI ends at the word it pulls after the flags byte, with no adjustment (R182). -/
theorem completes_rti (hi : i.handler = .rti) : Completes i s fun t =>
    t.p = s.readByte (stackAddr (s.reg .S + 1)) ∧
      t.pc = mkWord (s.readByte (stackAddr (s.reg .S + 3))) (s.readByte (stackAddr (s.reg .S + 2))) ∧
      t.reg .S = s.reg .S + 3 ∧ Frame [.S] [.C, .Z, .I, .D, .B, .U, .V, .N] [] s t :=
  completes_of_handled (handled_rti hi) fun _ =>
    ⟨by simp, by simp, by simp, returnFromInterrupt_frame (s.setPc (seqPc i s))⟩

/-- Settles O41: the flags byte and, in numbers, the word that RTI pulls. -/
theorem returnFromInterruptPullsFlagsThenPc : Obligations.ReturnFromInterruptPullsFlagsThenPc := by
  refine ⟨rowsOf_legalCells nofun, fun s => (completes_rti rfl).imp fun t ht => ?_⟩
  obtain ⟨hp, hpc, hrest⟩ := ht
  refine ⟨hp, ?_, hrest⟩
  rw [hpc, mkWord_toNat, Nat.mul_comm, Nat.add_comm]

end Sys2Proof.Machine
end

section
/-! PROOFS. Stack instructions, BRK, NOP and the flag instructions (45_stack_system_flags.md R190 to R202): handlers that push or pull
one byte, enter the vector of IRQ, or write one flag. -/

namespace Sys2Proof.Machine

variable {i : Instr} {s t : State} {v : Byte}

/-! ### Pushes -/

theorem push8_readByte_top (s : State) (v : Byte) : (push8 v s).readByte (stackAddr (s.reg .S)) = v := by
  rw [push8_readByte, if_pos rfl]

/-- PHA (R190). -/
theorem handled_pha (hi : i.handler = .pha) : handled i.opcode i.operand (handlerOf i.handler i.opcode) s =
    push8 (s.reg .A) (s.setPc (seqPc i s)) := by
  rw [hi]; rfl

/-- PHP: no bit of `P` is forced (R191). -/
theorem handled_php (hi : i.handler = .php) : handled i.opcode i.operand (handlerOf i.handler i.opcode) s =
    push8 s.p (s.setPc (seqPc i s)) := by
  rw [hi]; rfl

/-- A handler that pushes one byte (R28). -/
theorem completes_push8
    (h : handled i.opcode i.operand (handlerOf i.handler i.opcode) s = push8 v (s.setPc (seqPc i s))) :
    Completes i s fun t => t.readByte (stackAddr (s.reg .S)) = v ∧ t.reg .S = s.reg .S - 1 ∧ t.pc = seqPc i s ∧
      Frame [.S] [] [stackAddr (s.reg .S)] s t := by
  have htop := push8_readByte_top (s.setPc (seqPc i s)) v
  have hframe := push8_frame (s.setPc (seqPc i s)) v
  simp only [setPc_reg] at htop hframe
  exact completes_of_handled h fun _ => ⟨htop, by simp, by simp, hframe⟩

/-- Settles O42: both push one byte, A or all of `P`. -/
theorem pushesStoreTheByte : Obligations.PushesStoreTheByte :=
  ⟨⟨rowsOf_legalCells nofun, rowsOf_legalCells nofun⟩, fun _ => completes_push8 (handled_pha rfl),
    fun _ => completes_push8 (handled_php rfl)⟩

/-! ### Pulls -/

/-- A frame may name more registers, or the same in another order. -/
theorem Frame.mono_regs {rs rs' : List Reg} {fs : List Flag} {as : List Word} (h : Frame rs fs as s t) (hrs : rs ⊆ rs') :
    Frame rs' fs as s t := by
  obtain ⟨hregs, hrest⟩ := h
  exact ⟨fun r hr => hregs r (mt (@hrs r) hr), hrest⟩

/-- PLA (R192). -/
theorem handled_pla (hi : i.handler = .pla) : handled i.opcode i.operand (handlerOf i.handler i.opcode) s =
    setZN (pull8 (s.setPc (seqPc i s))).1
      ((pull8 (s.setPc (seqPc i s))).2.setReg .A (pull8 (s.setPc (seqPc i s))).1) := by
  rw [hi]; rfl

/-- PLP: all eight bits of `P` are the pulled ones (R193). -/
theorem handled_plp (hi : i.handler = .plp) : handled i.opcode i.operand (handlerOf i.handler i.opcode) s =
    (pull8 (s.setPc (seqPc i s))).2.setP (pull8 (s.setPc (seqPc i s))).1 := by
  rw [hi]; rfl

/-- PLA pulls A, with Z and N from it (R192). -/
theorem completes_pla (hi : i.handler = .pla) : Completes i s fun t =>
    t.reg .A = s.readByte (stackAddr (s.reg .S + 1)) ∧ HasZN (t.reg .A) t ∧ t.reg .S = s.reg .S + 1 ∧ t.pc = seqPc i s ∧
      Frame [.A, .S] [.Z, .N] [] s t := by
  have hframe := (pull8_frame (s.setPc (seqPc i s))).trans (setZN_setReg_frame _ .A (pull8 (s.setPc (seqPc i s))).1)
  refine completes_of_handled (handled_pla hi) fun _ => ⟨by simp, ?_, by simp, by simp, hframe.mono_regs (by simp)⟩
  simp only [addCycles_reg, setZN_reg, reg_setReg_self]
  exact hasZN_setZN _ _

/-- PLP pulls `P` (R193). -/
theorem completes_plp (hi : i.handler = .plp) : Completes i s fun t =>
    t.p = s.readByte (stackAddr (s.reg .S + 1)) ∧ t.reg .S = s.reg .S + 1 ∧ t.pc = seqPc i s ∧
      Frame [.S] [.C, .Z, .I, .D, .B, .U, .V, .N] [] s t := by
  obtain ⟨hregs, -, hmem, hcfg⟩ := pull8_frame (s.setPc (seqPc i s))
  exact completes_of_handled (handled_plp hi) fun _ =>
    ⟨by simp, by simp, by simp, hregs, keepsFlags_all s _, hmem, hcfg⟩

/-- Settles O43: both pull one byte, into A with Z and N, or into `P`. -/
theorem pullsReadTheByte : Obligations.PullsReadTheByte :=
  ⟨⟨rowsOf_legalCells nofun, rowsOf_legalCells nofun⟩, fun _ => completes_pla rfl, fun _ => completes_plp rfl⟩

/-! ### A push and then a pull -/

/-- Flags that a frame allows to change are as before when the flags byte is. -/
theorem Frame.of_p_eq {rs : List Reg} {fs : List Flag} {as : List Word} (h : Frame rs fs as s t) (hp : t.p = s.p) :
    Frame rs [] as s t := by
  obtain ⟨hregs, -, hrest⟩ := h
  exact ⟨hregs, fun f _ => congrArg (getFlag f) hp, hrest⟩

/-- PLP after PHP pulls the slot that PHP wrote (R191, R193). -/
theorem php_plp_restores (s : State) : ∃ t u, exec .php s = .next t ∧ exec .plp t = .next u ∧ u.p = s.p ∧
    Frame [] [] [stackAddr (s.reg .S)] s u := by
  obtain ⟨t, hphp, htop, htS, -, hpush⟩ := completes_push8 (i := .php) (s := s) (handled_php rfl)
  obtain ⟨u, hplp, hup, huS, -, hpull⟩ := completes_plp (i := .plp) (s := t) rfl
  have hslot : t.reg .S + 1 = s.reg .S := by rw [htS]; bv_omega
  have hp : u.p = s.p := by rw [hup, hslot, htop]
  refine ⟨t, u, hphp, hplp, hp, ((hpush.trans hpull).of_regs_eq fun r hr => ?_).of_p_eq hp⟩
  obtain rfl : r = .S := by simpa using hr
  rw [huS, hslot]

/-- PLA after PHA pulls the slot that PHA wrote (R190, R192). -/
theorem pha_pla_restores (s : State) : ∃ t u, exec .pha s = .next t ∧ exec .pla t = .next u ∧ HasZN (s.reg .A) u ∧
    Frame [] [.Z, .N] [stackAddr (s.reg .S)] s u := by
  obtain ⟨t, hpha, htop, htS, -, hpush⟩ := completes_push8 (i := .pha) (s := s) (handled_pha rfl)
  obtain ⟨u, hpla, huA, hZN, huS, -, hpull⟩ := completes_pla (i := .pla) (s := t) rfl
  have hslot : t.reg .S + 1 = s.reg .S := by rw [htS]; bv_omega
  have hA : u.reg .A = s.reg .A := by rw [huA, hslot, htop]
  have hframe : Frame [.A, .S] [.Z, .N] [stackAddr (s.reg .S)] s u := (hpush.trans hpull).mono_regs (by simp)
  refine ⟨t, u, hpha, hpla, hA ▸ hZN, hframe.of_regs_eq fun r hr => ?_⟩
  obtain rfl | rfl : r = .A ∨ r = .S := by simpa using hr
  · exact hA
  · rw [huS, hslot]

/-- Settles O44: each pull reads the slot of the push before it, for every stack pointer. -/
theorem pushThenPullRestores : Obligations.PushThenPullRestores :=
  fun s => ⟨php_plp_restores s, pha_pla_restores s⟩

/-! ### Entering a handler through a vector -/

section
variable (s : State) (ret vec : Word) (pushed live : Byte)

/-- The flags byte is pushed last, so no later push reaches its slot. -/
theorem enterVector_readByte_flags : (enterVector ret pushed live vec s).readByte (stackAddr (s.reg .S - 2)) = pushed := by
  rw [enterVector_readByte, if_pos rfl]

theorem enterVector_readByte_lo : (enterVector ret pushed live vec s).readByte (stackAddr (s.reg .S - 1)) = loByte ret := by
  have h2 : stackAddr (s.reg .S - 1) ≠ stackAddr (s.reg .S - 2) := by rw [Ne, stackAddr_inj]; bv_omega
  rw [enterVector_readByte, if_neg h2, if_pos rfl]

theorem enterVector_readByte_hi : (enterVector ret pushed live vec s).readByte (stackAddr (s.reg .S)) = hiByte ret := by
  have h2 : stackAddr (s.reg .S) ≠ stackAddr (s.reg .S - 2) := by rw [Ne, stackAddr_inj]; bv_omega
  rw [enterVector_readByte, if_neg h2, if_neg (stackAddr_ne_pred _), if_pos rfl]

/-- Entering a handler writes S, three slots of the stack, and the flags in which the new flags byte differs. -/
theorem enterVector_frame {fs : List Flag} (hlive : ∀ f, f ∉ fs → getFlag f live = s.flag f) :
    Frame [.S] fs [stackAddr (s.reg .S), stackAddr (s.reg .S - 1), stackAddr (s.reg .S - 2)] s
      (enterVector ret pushed live vec s) :=
  ⟨fun _ hr => enterVector_reg s ret vec pushed live (by simpa using hr),
    fun f hf => (enterVector_flag s f ret vec pushed live).trans (hlive f hf),
    (enterVector_storesTo rfl ret pushed live vec).keepsMem, enterVector_cfg s ret vec pushed live⟩

end

/-- A handler that enters through the vector of IRQ. -/
theorem completes_enterVector_irq {ret : Word} {pushed live : Byte} {fs : List Flag}
    (h : handled i.opcode i.operand (handlerOf i.handler i.opcode) s =
      enterVector ret pushed live irqVector (s.setPc (seqPc i s)))
    (hlive : ∀ f, f ∉ fs → getFlag f live = s.flag f) : Completes i s fun t =>
    t.readByte (stackAddr (s.reg .S)) = hiByte ret ∧ t.readByte (stackAddr (s.reg .S - 1)) = loByte ret ∧
    t.readByte (stackAddr (s.reg .S - 2)) = pushed ∧ t.reg .S = s.reg .S - 3 ∧ t.p = live ∧ t.pc = s.readWord irqVector ∧
    Frame [.S] fs [stackAddr (s.reg .S), stackAddr (s.reg .S - 1), stackAddr (s.reg .S - 2)] s t := by
  have hhi := enterVector_readByte_hi (s.setPc (seqPc i s)) ret irqVector pushed live
  have hlo := enterVector_readByte_lo (s.setPc (seqPc i s)) ret irqVector pushed live
  have hflags := enterVector_readByte_flags (s.setPc (seqPc i s)) ret irqVector pushed live
  have hpc := enterVector_pc_irq (s.setPc (seqPc i s)) ret pushed live
  have hframe := enterVector_frame (s.setPc (seqPc i s)) ret irqVector pushed live hlive
  simp only [setPc_reg] at hhi hlo hflags hframe
  exact completes_of_handled h fun _ => ⟨hhi, hlo, hflags, by simp, by simp, hpc, hframe⟩

/-! ### BRK -/

/-- The flags byte that BRK pushes (R194, D4). -/
def brkPushedFlags (s : State) : Byte := if s.cfg.brkBBeforePush then setFlag .B true s.p else s.p

/-- The flags byte that BRK leaves in `P` (R194, D5). -/
def brkLiveFlags (s : State) : Byte :=
  if s.cfg.brkSetsI then setFlag .I true (setFlag .B true s.p) else setFlag .B true s.p

/-- BRK (R194). -/
theorem handled_brk (hi : i.handler = .brk) : handled i.opcode i.operand (handlerOf i.handler i.opcode) s =
    enterVector (s.pc + s.cfg.brkPushOffset) (brkPushedFlags s) (brkLiveFlags s) irqVector (s.setPc (seqPc i s)) := by
  rw [hi]; rfl

theorem getFlag_brkPushedFlags (f : Flag) (s : State) :
    getFlag f (brkPushedFlags s) = if f = .B then s.cfg.brkBBeforePush || s.flag .B else s.flag f := by
  unfold brkPushedFlags
  cases hcfg : s.cfg.brkBBeforePush
  · rw [if_neg Bool.false_ne_true, Bool.false_or]
    split
    · next hf => rw [hf]; rfl
    · rfl
  · exact getFlag_setFlag f .B true s.p

theorem getFlag_B_brkLiveFlags (s : State) : getFlag .B (brkLiveFlags s) = true := by
  unfold brkLiveFlags
  split <;> simp

theorem getFlag_I_brkLiveFlags (s : State) : getFlag .I (brkLiveFlags s) = (s.cfg.brkSetsI || s.flag .I) := by
  unfold brkLiveFlags
  cases hcfg : s.cfg.brkSetsI <;> simp [State.flag]

theorem getFlag_brkLiveFlags {f : Flag} (hB : f ≠ .B) (hI : f ≠ .I) (s : State) : getFlag f (brkLiveFlags s) = s.flag f := by
  unfold brkLiveFlags
  split <;> simp [hB, hI, State.flag]

/-- BRK enters through the vector it shares with IRQ (R194). -/
theorem completes_brk (hi : i.handler = .brk) : Completes i s fun t =>
    t.readByte (stackAddr (s.reg .S)) = hiByte (s.pc + s.cfg.brkPushOffset) ∧
    t.readByte (stackAddr (s.reg .S - 1)) = loByte (s.pc + s.cfg.brkPushOffset) ∧
    t.readByte (stackAddr (s.reg .S - 2)) = brkPushedFlags s ∧ t.reg .S = s.reg .S - 3 ∧ t.p = brkLiveFlags s ∧
    t.pc = s.readWord irqVector ∧
    Frame [.S] [.B, .I] [stackAddr (s.reg .S), stackAddr (s.reg .S - 1), stackAddr (s.reg .S - 2)] s t := by
  refine completes_enterVector_irq (handled_brk hi) fun f hf => ?_
  obtain ⟨hB, hI⟩ : f ≠ .B ∧ f ≠ .I := by simpa using hf
  exact getFlag_brkLiveFlags hB hI s

/-- Settles O45: the bytes that BRK pushes and the flags it leaves, the return word in numbers, under every setting of its options. -/
theorem breakEntersThroughTheIrqVector : Obligations.BreakEntersThroughTheIrqVector := by
  refine ⟨rowsOf_legalCells nofun, fun s => (completes_brk rfl).imp fun t ht => ?_⟩
  obtain ⟨hhi, hlo, hpushed, hS, hp, hpc, hframe⟩ := ht
  refine ⟨?_, ?_, fun f => ?_, hS, ?_, ?_, hpc, hframe⟩
  · rw [hhi, hiByte_toNat]
  · rw [hlo, loByte_toNat]
  · rw [hpushed, getFlag_brkPushedFlags]
  · rw [State.flag, hp, getFlag_B_brkLiveFlags]
  · rw [State.flag, hp, getFlag_I_brkLiveFlags]

/-! ### NOP and the flag instructions -/

/-- An instruction answers one state, so what is proved of it in two ways holds together. -/
theorem Completes.and {p q : State → Prop} (hp : Completes i s p) (hq : Completes i s q) :
    Completes i s fun t => p t ∧ q t := by
  obtain ⟨t, ht, hpt⟩ := hp
  obtain ⟨u, hu, hqu⟩ := hq
  obtain rfl : t = u := Host.Outcome.next.inj (ht.symm.trans hu)
  exact ⟨t, ht, hpt, hqu⟩

/-- Without a penalty, the counter advances by the base cost (R85). -/
theorem completes_cycles {n : Nat} (hcycles : i.entry.cycles = some n) (hpenalty : i.entry.penalty = 0) (s : State) :
    Completes i s fun t => t.cycles = s.cycles + n := by
  refine (cyclesAreAccounted i s).imp fun t ht => ?_
  rw [ht, hpenalty, if_neg (fun h => absurd h.1 (Nat.lt_irrefl 0)), baseCycles, hcycles]
  rfl

/-- The table of R196 to R202: each flag instruction with the flag it writes and the value. -/
def flagTable : List (Handler × Flag × Bool) :=
  [(.clc, .C, false), (.sec, .C, true), (.cli, .I, false), (.sei, .I, true), (.cld, .D, false), (.sed, .D, true),
    (.clv, .V, false)]

/-- NOP and the handlers of the flag instructions. -/
def nopAndFlagHandlers : List Handler := .nop :: flagTable.map Prod.fst

/-- NOP and the flag instructions have one byte and two cycles, and no penalty (R195 to R202). -/
theorem entry_of_nop_or_flag (h : i.handler ∈ nopAndFlagHandlers) :
    i.entry.size = 1 ∧ i.entry.cycles = some 2 ∧ i.entry.penalty = 0 := by
  have hcells : ∀ h ∈ nopAndFlagHandlers, h ≠ .illegal ∧ ∀ c ∈ legalCells h,
      (entryOf c.1).size = 1 ∧ (entryOf c.1).cycles = some 2 ∧ (entryOf c.1).penalty = 0 := by
    decide
  obtain ⟨hill, hcell⟩ := hcells _ h
  have hmem : (i.opcode, i.entry.mode) ∈ legalCells i.handler := (rowsOf_legalCells hill i.opcode).mp rfl
  simpa only [Instr.entry] using hcell _ hmem

theorem seqPc_of_nop_or_flag (h : i.handler ∈ nopAndFlagHandlers) (s : State) : seqPc i s = s.pc + 1 := by
  obtain ⟨hsize, -⟩ := entry_of_nop_or_flag h
  rw [seqPc, hsize]; rfl

theorem completes_two_cycles (h : i.handler ∈ nopAndFlagHandlers) (s : State) :
    Completes i s fun t => t.cycles = s.cycles + 2 := by
  obtain ⟨-, hcycles, hpenalty⟩ := entry_of_nop_or_flag h
  exact completes_cycles hcycles hpenalty s

/-- NOP (R195). -/
theorem handled_nop (hi : i.handler = .nop) : handled i.opcode i.operand (handlerOf i.handler i.opcode) s =
    s.setPc (seqPc i s) := by
  rw [hi]; rfl

/-- Settles O46: the engine's own advance of `PC` and the counter is all that NOP does. -/
theorem nopOnlyAdvances : Obligations.NopOnlyAdvances := by
  refine ⟨rowsOf_legalCells nofun, fun s => ?_⟩
  have hmem : Instr.nop.handler ∈ nopAndFlagHandlers := List.mem_cons_self
  have hnop : Completes .nop s fun t => t.pc = seqPc .nop s ∧ Frame [] [] [] s t :=
    completes_of_handled (handled_nop rfl) fun _ => ⟨rfl, setPc_frame s (seqPc .nop s)⟩
  refine (hnop.and (completes_two_cycles hmem s)).imp fun t ht => ?_
  obtain ⟨⟨hpc, hframe⟩, hcycles⟩ := ht
  exact ⟨hpc.trans (seqPc_of_nop_or_flag hmem s), hcycles, hframe⟩

/-- CLC, SEC, CLI, SEI, CLD, SED and CLV (R196 to R202). -/
theorem handled_flag {f : Flag} {b : Bool} (hmem : (i.handler, f, b) ∈ flagTable) :
    handled i.opcode i.operand (handlerOf i.handler i.opcode) s = (s.setPc (seqPc i s)).withFlag f b := by
  simp only [flagTable, List.mem_cons, Prod.mk.injEq, List.not_mem_nil, or_false] at hmem
  obtain ⟨hi, rfl, rfl⟩ | ⟨hi, rfl, rfl⟩ | ⟨hi, rfl, rfl⟩ | ⟨hi, rfl, rfl⟩ | ⟨hi, rfl, rfl⟩ | ⟨hi, rfl, rfl⟩ |
    ⟨hi, rfl, rfl⟩ := hmem <;> rw [hi] <;> rfl

theorem withFlag_frame (s : State) (f : Flag) (b : Bool) : Frame [] [f] [] s (s.withFlag f b) :=
  ⟨fun r _ => withFlag_reg s r f b, withFlag_keepsFlags s f b, fun _ _ => rfl, rfl⟩

/-- Settles O47: each of the seven writes one flag, and the engine advances `PC` by one byte and the counter by two. -/
theorem flagInstructionsWriteOneBit : Obligations.FlagInstructionsWriteOneBit := by
  refine ⟨⟨rowsOf_legalCells nofun, rowsOf_legalCells nofun, rowsOf_legalCells nofun, rowsOf_legalCells nofun,
    rowsOf_legalCells nofun, rowsOf_legalCells nofun, rowsOf_legalCells nofun⟩, fun i s f b hmem => ?_⟩
  have hhandler : i.handler ∈ nopAndFlagHandlers :=
    List.mem_cons_of_mem _ (List.mem_map_of_mem (f := Prod.fst) hmem)
  have hflag : Completes i s fun t => t.flag f = b ∧ t.pc = seqPc i s ∧ Frame [] [f] [] s t :=
    completes_of_handled (handled_flag hmem) fun _ =>
      ⟨withFlag_flag_self _ f b, rfl, withFlag_frame (s.setPc (seqPc i s)) f b⟩
  refine (hflag.and (completes_two_cycles hhandler s)).imp fun t ht => ?_
  obtain ⟨⟨hf, hpc, hframe⟩, hcycles⟩ := ht
  exact ⟨hf, hpc.trans (seqPc_of_nop_or_flag hhandler s), hcycles, hframe⟩

end Sys2Proof.Machine
end

section
/-! PROOFS. The illegal opcodes (46_illegal_opcodes.md R210 to R212): what the open effect answers is written out, whatever it is, and
the engine advances `PC` and the counter as for any sequential instruction. -/

namespace Sys2Proof.Machine

/-- The state with the open effect's answer written out: its stores done, then the five 8-bit registers overwritten (R210). -/
def applyEffect (r : IllegalResult) (s : State) : State :=
  (((((s.writeAll r.stores).setReg .A r.a).setReg .X r.x).setReg .Y r.y).setReg .S r.s).setP r.p

section
variable (r : IllegalResult) (s : State) (a : Word)

@[simp] theorem applyEffect_A : (applyEffect r s).reg .A = r.a := by simp [applyEffect]
@[simp] theorem applyEffect_X : (applyEffect r s).reg .X = r.x := by simp [applyEffect]
@[simp] theorem applyEffect_Y : (applyEffect r s).reg .Y = r.y := by simp [applyEffect]
@[simp] theorem applyEffect_S : (applyEffect r s).reg .S = r.s := by simp [applyEffect]
@[simp] theorem applyEffect_p : (applyEffect r s).p = r.p := rfl
@[simp] theorem applyEffect_pc : (applyEffect r s).pc = s.pc := by simp [applyEffect]
@[simp] theorem applyEffect_cfg : (applyEffect r s).cfg = s.cfg := rfl
@[simp] theorem applyEffect_readByte : (applyEffect r s).readByte a = (s.writeAll r.stores).readByte a := rfl

end

variable {i : Instr} {s : State}

/-- What the uninterpreted effect answers for an instruction in the state it starts from (R210, R211). -/
def effectOf (i : Instr) (s : State) : IllegalResult :=
  Config.illegalEffect i.opcode (effAddr i s) (s.reg .A) (s.reg .X) (s.reg .Y) (s.reg .S) s.p s.mem

/-- An illegal opcode (R210): the effect is asked about the registers and memory that the step began with. -/
theorem handled_illegal (hi : i.handler = .illegal) : handled i.opcode i.operand (handlerOf i.handler i.opcode) s =
    applyEffect (effectOf i s) (s.setPc (seqPc i s)) := by
  rw [hi]; rfl

/-- The counter advances by the base cost and the penalty, with the pages compared as the engine compares them (R85). -/
theorem completes_baseCycles_add_pagePenalty (i : Instr) (s : State) : Completes i s fun t =>
    t.cycles = s.cycles + baseCycles i.entry + pagePenalty i.entry t.pc (effAddr i s) := by
  refine (cyclesAreAccounted i s).imp fun t ht => ?_
  rw [ht, pagePenalty_eq]

/-- An illegal opcode ends at `next` with the open effect's answer in the registers and in memory (R210). -/
theorem completes_illegal (hi : i.handler = .illegal) : Completes i s fun t =>
    t.reg .A = (effectOf i s).a ∧ t.reg .X = (effectOf i s).x ∧ t.reg .Y = (effectOf i s).y ∧ t.reg .S = (effectOf i s).s ∧
      t.p = (effectOf i s).p ∧ (∀ a, t.readByte a = (s.writeAll (effectOf i s).stores).readByte a) ∧ t.pc = seqPc i s ∧
      t.cfg = s.cfg :=
  completes_of_handled (handled_illegal hi) fun _ =>
    ⟨by simp, by simp, by simp, by simp, by simp, applyEffect_readByte (effectOf i s) (s.setPc (seqPc i s)), by simp, by simp⟩

/-- Settles O48: the effect's answer is written out by the handler, which leaves the counter to the engine. -/
theorem illegalOpcodesCompleteWithTheOpenEffect : Obligations.IllegalOpcodesCompleteWithTheOpenEffect := by
  intro i s hi
  refine ((completes_illegal hi).and (completes_baseCycles_add_pagePenalty i s)).imp fun t ht => ?_
  obtain ⟨⟨hA, hX, hY, hS, hp, hmem, hpc, hcfg⟩, hcycles⟩ := ht
  exact ⟨hA, hX, hY, hS, hp, hmem, hpc, hcycles, hcfg⟩

end Sys2Proof.Machine
end

section
/-! PROOFS. Interrupt entry and the return from it (60_exceptions.md R224 to R233): NMI, a taken IRQ and BRK all leave the return word
and a flags byte in the same three slots, and RTI pulls them whichever of the three wrote them. -/

namespace Sys2Proof.Machine

variable {s t : State}

/-! ### The flags byte that NMI and IRQ push -/

/-- Bit 4 of the flags byte that NMI and IRQ push, from the option and the live Break flag (R229). -/
def pushedBreak (b : PushedB) (live : Bool) : Bool :=
  match b with
  | .keep => live
  | .clear => false
  | .set => true

theorem getFlag_B_pushedFlags (b : PushedB) (p : Byte) : getFlag .B (pushedFlags b p) = pushedBreak b (getFlag .B p) := by
  cases b with
  | keep => rfl
  | clear | set => exact getFlag_setFlag_self ..

theorem getFlag_pushedFlags_ne {f : Flag} (hf : f ≠ .B) (b : PushedB) (p : Byte) :
    getFlag f (pushedFlags b p) = getFlag f p := by
  cases b with
  | keep => rfl
  | clear | set => exact getFlag_setFlag_ne _ hf p

/-! ### A handler that has been entered -/

/-- What NMI, IRQ and BRK have in common: from `s` to `t` the word `ret` and the flags byte `pushed` went onto the stack, and of the
flags only `fs` changed (R194, R228). -/
structure HandlerEntered (ret : Word) (pushed : Byte) (fs : List Flag) (s t : State) : Prop where
  readHi : t.readByte (stackAddr (s.reg .S)) = hiByte ret
  readLo : t.readByte (stackAddr (s.reg .S - 1)) = loByte ret
  readFlags : t.readByte (stackAddr (s.reg .S - 2)) = pushed
  stackPointer : t.reg .S = s.reg .S - 3
  frame : Frame [.S] fs [stackAddr (s.reg .S), stackAddr (s.reg .S - 1), stackAddr (s.reg .S - 2)] s t

/-- Entering through a vector writes the flags in which the new flags byte differs. -/
theorem handlerEntered_enterVector (s : State) (ret vec : Word) (pushed : Byte) {live : Byte} {fs : List Flag}
    (hlive : ∀ f, f ∉ fs → getFlag f live = s.flag f) : HandlerEntered ret pushed fs s (enterVector ret pushed live vec s) :=
  ⟨enterVector_readByte_hi s ret vec pushed live, enterVector_readByte_lo s ret vec pushed live,
    enterVector_readByte_flags s ret vec pushed live, enterVector_S s ret vec pushed live,
    enterVector_frame s ret vec pushed live hlive⟩

/-- The cycle counter is no part of what an entry leaves. -/
theorem HandlerEntered.addCycles {ret : Word} {pushed : Byte} {fs : List Flag} (h : HandlerEntered ret pushed fs s t)
    (n : Nat) : HandlerEntered ret pushed fs s (t.addCycles n) := by
  obtain ⟨hhi, hlo, hflags, hS, hregs, hkeep⟩ := h
  exact ⟨hhi, hlo, hflags, hS, fun r hr => (addCycles_reg t r n).trans (hregs r hr), hkeep⟩

/-- The entry sequence of NMI and IRQ writes no flag but I (R228). -/
theorem handlerEntered_interruptEntry (vec : Word) (s : State) :
    HandlerEntered s.pc (pushedFlags s.cfg.intPushedB s.p) [.I] s (interruptEntry vec s) :=
  (handlerEntered_enterVector s s.pc vec _ fun _ hf => getFlag_setFlag_ne true (by simpa using hf) s.p).addCycles 7

/-- BRK enters with its own return word and flags byte (R194). -/
theorem completes_brk_handlerEntered (s : State) :
    Completes .brk s (HandlerEntered (s.pc + s.cfg.brkPushOffset) (brkPushedFlags s) [.B, .I] s) := by
  refine (completes_brk rfl).imp fun t ht => ?_
  obtain ⟨hhi, hlo, hflags, hS, -, -, hframe⟩ := ht
  exact ⟨hhi, hlo, hflags, hS, hframe⟩

/-- RTI in an entered handler pulls what the entry pushed, so it undoes the entry but for the flags in which the pushed byte differs
from `P` (R182, R233). -/
theorem HandlerEntered.rti_undoes {ret : Word} {pushed : Byte} {fs gs : List Flag} (h : HandlerEntered ret pushed fs s t)
    (hpushed : ∀ f, f ∉ gs → getFlag f pushed = s.flag f) : Completes .rti t fun u =>
      u.pc = ret ∧ u.p = pushed ∧
        Frame [] gs [stackAddr (s.reg .S), stackAddr (s.reg .S - 1), stackAddr (s.reg .S - 2)] s u := by
  have hslotFlags : t.reg .S + 1 = s.reg .S - 2 := by rw [h.stackPointer]; bv_omega
  have hslotLo : t.reg .S + 2 = s.reg .S - 1 := by rw [h.stackPointer]; bv_omega
  have hslotHi : t.reg .S + 3 = s.reg .S := by rw [h.stackPointer]; bv_omega
  refine (completes_rti rfl).imp fun u hu => ?_
  obtain ⟨hp, hpc, hS, hpull⟩ := hu
  have hup : u.p = pushed := by rw [hp, hslotFlags, h.readFlags]
  have hregs : ∀ r ∈ [Reg.S, .S], u.reg r = s.reg r := by simpa using hS.trans hslotHi
  obtain ⟨hkeep, -, hmem, hcfg⟩ := (h.frame.trans hpull).of_regs_eq hregs
  refine ⟨?_, hup, hkeep, fun f hf => ?_, hmem, hcfg⟩
  · rw [hpc, hslotHi, hslotLo, h.readHi, h.readLo, mkWord_hiByte_loByte]
  · rw [State.flag, hup, hpushed f hf]

/-! ### NMI and IRQ -/

theorem interruptEntry_pc_nmi (s : State) : (interruptEntry nmiVector s).pc = s.readWord nmiVector := by
  rw [interruptEntry, addCycles_pc, enterVector_pc_nmi]

theorem interruptEntry_pc_irq (s : State) : (interruptEntry irqVector s).pc = s.readWord irqVector := by
  rw [interruptEntry, addCycles_pc, enterVector_pc_irq]

/-- A masked request is dropped (R225). -/
theorem triggerIrq_of_masked (h : s.flag .I = true ∧ s.cfg.irqMaskedByI = true) : triggerIrq s = s :=
  if_pos h

/-- A request that is not masked enters through the vector of IRQ (R225, R227). -/
theorem triggerIrq_of_not_masked (h : ¬(s.flag .I = true ∧ s.cfg.irqMaskedByI = true)) :
    triggerIrq s = interruptEntry irqVector s :=
  if_neg h

/-- Settles O49: both requests are the entry sequence, which pushes what `HandlerEntered` says and reads a vector that the pushes do
not reach. -/
theorem nmiEntersThroughItsVector : Obligations.NmiEntersThroughItsVector := by
  intro s t vec h
  obtain ⟨rfl, hpc⟩ : t = interruptEntry vec s ∧ t.pc = s.readWord vec := by
    obtain ⟨rfl, rfl⟩ | ⟨rfl, rfl⟩ := h
    · exact ⟨rfl, interruptEntry_pc_nmi s⟩
    · exact ⟨rfl, interruptEntry_pc_irq s⟩
  obtain ⟨hhi, hlo, hflags, hS, hframe⟩ := handlerEntered_interruptEntry vec s
  refine ⟨hpc, ?_, ?_, fun f hf => ?_, ?_, hS, ?_, interruptEntry_cycles s vec, hframe⟩
  · rw [hhi, hiByte_toNat]
  · rw [hlo, loByte_toNat]
  · rw [hflags, getFlag_pushedFlags_ne hf, State.flag]
  · rw [hflags]
    exact getFlag_B_pushedFlags s.cfg.intPushedB s.p
  · rw [State.flag, interruptEntry_p, getFlag_setFlag_self]

/-- Settles O50: a request that is not masked is the entry common to NMI and IRQ; NMI and BRK do not ask whether I is set. -/
theorem irqIsMaskedOrEnters : Obligations.IrqIsMaskedOrEnters :=
  fun s => ⟨triggerIrq_of_masked,
    fun hmask t ht => nmiEntersThroughItsVector s t irqVector (.inr ⟨rfl, ht.trans (triggerIrq_of_not_masked hmask)⟩),
    interruptEntry_pc_nmi s,
    (completes_brk rfl).imp fun _ ⟨_, _, _, _, _, hpc, _⟩ => hpc⟩

/-! ### Returning -/

/-- Settles O51: the flags byte that NMI and IRQ push differs from `P` in Break alone. -/
theorem interruptThenReturnRestores : Obligations.InterruptThenReturnRestores := by
  intro s t h
  have hentered : HandlerEntered s.pc (pushedFlags s.cfg.intPushedB s.p) [.I] s t := by
    obtain rfl | ⟨rfl, hmask⟩ := h
    · exact handlerEntered_interruptEntry nmiVector s
    · rw [triggerIrq_of_not_masked hmask]
      exact handlerEntered_interruptEntry irqVector s
  have hpushed : ∀ f, f ∉ [Flag.B] → getFlag f (pushedFlags s.cfg.intPushedB s.p) = s.flag f := fun f hf =>
    getFlag_pushedFlags_ne (by simpa using hf) _ s.p
  refine (hentered.rti_undoes hpushed).imp fun u hu => ?_
  obtain ⟨hpc, hp, hframe⟩ := hu
  refine ⟨hpc, ?_, hframe⟩
  rw [State.flag, hp]
  exact getFlag_B_pushedFlags s.cfg.intPushedB s.p

/-- Settles O52: the flags byte that BRK pushes differs from `P` in Break alone, under every setting of its options. -/
theorem breakThenReturnResumes : Obligations.BreakThenReturnResumes := by
  intro s
  have hpushed : ∀ f, f ∉ [Flag.B] → getFlag f (brkPushedFlags s) = s.flag f := fun f hf => by
    rw [getFlag_brkPushedFlags, if_neg (by simpa using hf)]
  obtain ⟨t, hbrk, hentered⟩ := completes_brk_handlerEntered s
  obtain ⟨u, hrti, hpc, hp, hframe⟩ := hentered.rti_undoes hpushed
  refine ⟨t, u, hbrk, hrti, hpc, ?_, hframe⟩
  rw [State.flag, hp, getFlag_brkPushedFlags, if_pos rfl]

end Sys2Proof.Machine
end

section
/-! PROOFS. The host's port (70_reset_and_hazards.md R258 to R265): loading, ranges of memory, the registers, and the invariant that
every transaction keeps. -/

namespace Sys2Proof.Machine

variable (s : State) (bytes : List Byte) (start : Word) (len : Nat)

/-! ### Writing a range -/

theorem writeBytes_getRegisters : getRegisters (writeBytes start bytes s) = getRegisters s := by
  induction bytes generalizing start s with
  | nil => rfl
  | cons v rest ih => exact ih (s.writeByte start v) (start + 1)

/-- The address at distance `k` from `start` reads byte `k` of a range that does not come round to its own start; past the range it
reads as before. -/
theorem writeBytes_readByte (a : Word) (h : bytes.length ≤ 65536) :
    (writeBytes start bytes s).readByte a = (bytes[(a - start).toNat]?).getD (s.readByte a) := by
  induction bytes generalizing start s with
  | nil => rfl
  | cons v rest ih =>
    rw [List.length_cons] at h
    rw [writeBytes, ih _ _ (by omega), readByte_writeByte]
    by_cases ha : a = start
    · have hlast : (a - (start + 1)).toNat = 65535 := by rw [ha]; bv_omega
      have hzero : (a - start).toNat = 0 := by rw [ha, BitVec.sub_self]; rfl
      rw [hlast, hzero, List.getElem?_eq_none (by omega), if_pos ha]
      rfl
    · have hnext : (a - start).toNat = (a - (start + 1)).toNat + 1 := by bv_omega
      rw [hnext, List.getElem?_cons_succ, if_neg ha]

/-- In a range that ends inside the address space, the distance from `start` is a difference of numbers, and addresses below `start` are
past the range. -/
theorem writeBytes_readByte_of_le (a : Word) (h : start.toNat + bytes.length ≤ 65536) :
    (writeBytes start bytes s).readByte a =
      if start.toNat ≤ a.toNat then (bytes[a.toNat - start.toNat]?).getD (s.readByte a) else s.readByte a := by
  rw [writeBytes_readByte s bytes start a (by omega)]
  by_cases ha : start.toNat ≤ a.toNat
  · have hdiff : (a - start).toNat = a.toNat - start.toNat := by bv_omega
    rw [if_pos ha, hdiff]
  · have hpast : bytes.length ≤ (a - start).toNat := by bv_omega
    rw [if_neg ha, List.getElem?_eq_none hpast, Option.getD_none]

/-! ### Accepted or refused -/

theorem loadProgram_of_length_lt (h : bytes.length < 65536) : loadProgram bytes s = (true, writeBytes 0 bytes s) :=
  if_pos (decide_eq_true h)

theorem loadProgram_of_length_ge (h : 65536 ≤ bytes.length) : loadProgram bytes s = (false, s) :=
  if_neg (by simpa [imageFits] using h)

theorem writeRange_of_le (h : start.toNat + bytes.length ≤ 65536) :
    writeRange bytes start s = (true, writeBytes start bytes s) :=
  if_neg (Nat.not_lt.mpr h)

theorem writeRange_of_gt (h : 65536 < start.toNat + bytes.length) : writeRange bytes start s = (false, s) :=
  if_pos h

theorem readRange_of_gt (h : 65536 < start.toNat + len) : readRange start len s = [] :=
  if_pos h

theorem readRange_of_le (h : start.toNat + len ≤ 65536) :
    readRange start len s = (List.range len).map fun k => s.readByte (start + BitVec.ofNat 16 k) :=
  if_neg (Nat.not_lt.mpr h)

theorem readRange_getElem? (h : start.toNat + len ≤ 65536) {k : Nat} (hk : k < len) :
    (readRange start len s)[k]? = some (s.readByte (BitVec.ofNat 16 (start.toNat + k))) := by
  rw [readRange_of_le s start len h, List.getElem?_map, List.getElem?_range hk, BitVec.ofNat_add, BitVec.ofNat_toNat,
    BitVec.setWidth_eq]
  rfl

/-- Settles O58: what is accepted is a range written from its start on, which no register is part of; load_program's start is 0. -/
theorem loadingAndRangesFailWithoutMutation : Obligations.LoadingAndRangesFailWithoutMutation := by
  intro s bytes start len
  refine ⟨loadProgram_of_length_ge s bytes, fun h => ?load, writeRange_of_gt s bytes start, fun h => ?write,
    readRange_of_gt s start len, fun h => ⟨?length, fun _ hk => readRange_getElem? s start len h hk⟩⟩
  case load =>
    refine ⟨_, loadProgram_of_length_lt s bytes h, fun a => ?_, writeBytes_getRegisters s bytes 0, writeBytes_cycles bytes 0 s,
      writeBytes_cfg bytes 0 s⟩
    simpa using writeBytes_readByte s bytes 0 a h.le
  case write =>
    exact ⟨_, writeRange_of_le s bytes start h, fun a => writeBytes_readByte_of_le s bytes start a h,
      writeBytes_getRegisters s bytes start, writeBytes_cycles bytes start s, writeBytes_cfg bytes start s⟩
  case length => rw [readRange_of_le s start len h, List.length_map, List.length_range]

/-! ### Registers -/

/-- Settles O59: the port's fields are fields of the state, each written and read as it is. -/
theorem registerPortReadsAndWritesSixRegisters : Obligations.RegisterPortReadsAndWritesSixRegisters :=
  fun _ _ => ⟨rfl, rfl, rfl, rfl, rfl⟩

/-! ### The invariant -/

variable {s}

theorem writeByte_inv (h : s.Inv) (a : Word) (v : Byte) : (s.writeByte a v).Inv :=
  wf_writeByte s a v h

theorem writeWord_inv (h : s.Inv) (a w : Word) : (s.writeWord a w).Inv :=
  writeByte_inv (writeByte_inv h a (loByte w)) (a + 1) (hiByte w)

theorem loadProgram_inv (h : s.Inv) : (loadProgram bytes s).2.Inv := by
  by_cases hfits : bytes.length < 65536
  · rw [loadProgram_of_length_lt s bytes hfits]
    exact wf_writeBytes bytes 0 s h
  · rwa [loadProgram_of_length_ge s bytes (Nat.not_lt.mp hfits)]

theorem writeRange_inv (h : s.Inv) : (writeRange bytes start s).2.Inv := by
  by_cases hfits : start.toNat + bytes.length ≤ 65536
  · rw [writeRange_of_le s bytes start hfits]
    exact wf_writeBytes bytes start s h
  · rwa [writeRange_of_gt s bytes start (Nat.not_le.mp hfits)]

theorem triggerIrq_inv (h : s.Inv) : (triggerIrq s).Inv := by
  by_cases hmask : s.flag .I = true ∧ s.cfg.irqMaskedByI = true
  · rwa [triggerIrq_of_masked hmask]
  · rw [triggerIrq_of_not_masked hmask]
    exact wf_interruptEntry s irqVector h

/-- Settles O60: each transaction writes bytes, which keeps the canonical form, or leaves memory as it is. -/
theorem hostTransactionsKeepTheInvariant : Obligations.HostTransactionsKeepTheInvariant := by
  intro s h a w v bytes r
  exact ⟨writeByte_inv h a v, writeWord_inv h a w, loadProgram_inv bytes h, writeRange_inv bytes a h, h,
    wf_interruptEntry s nmiVector h, triggerIrq_inv h⟩

end Sys2Proof.Machine
end
